-- ==== Sys2Proof/Word.lean ====
section
/-! DEFINITION. The data types every layer uses: the byte, the byte string and the bounded byte string. -/

namespace Sys2Proof

/-- A byte is 8 bits (R60). It is also one character of a text operand (R16: "a sequence of bytes, each read as an ASCII code"). -/
abbrev Byte := BitVec 8

/-- A text operand: the length is part of the value, no terminator is stored and any byte value may occur (R16, R99). -/
abbrev Text := List Byte

/-- The operand type `str(0..255)` of R99: a byte string whose length is at most 255.
The bound is carried by the value, as the width of a `u8` is: R339 says that these operand types "admit every value".
It is a structure, so that the operand records have an inhabitant and a free value of their type can be declared. -/
structure Str255 where
  val : Text := []
  bound : val.length ≤ 255 := by simp
  deriving DecidableEq, Repr, Inhabited

/-- A byte buffer of `n` bytes (R14, R60, R62). -/
abbrev Buf (n : Nat) := Vector Byte n

end Sys2Proof
end

