-- ==== Sys2Proof/Config.lean ====
section
/-! DEFINITION. The types of the engine's configuration (R10, R11, R353): every parameter the source leaves to the implementation,
as plain data; and the free value of a CW duration.
The default content of the tables stands in Machine/Tables.lean. -/

namespace Sys2Proof

/-- One element of a Morse code: `.` or `-` (R141). -/
inductive MorseElem where
  | dot
  | dash
  deriving DecidableEq, Repr

/-- FTX_LAYOUT row of `FTX_FREE_TEXT` (R289, R300): first bit of the 71-bit field f71, and the value of `n3`.
Field widths and the positions of `n3` and `i3` are the source's and are no part of the parameter (U14). -/
structure FreeTextLayout where
  f71 : Nat
  n3 : Nat
  deriving DecidableEq, Repr

/-- FTX_LAYOUT row of `FTX_DXPED` (R290, R300): first bit of each field, and `n3`. -/
structure DxpedLayout where
  c28a : Nat
  c28b : Nat
  h10 : Nat
  r5 : Nat
  n3 : Nat
  deriving DecidableEq, Repr

/-- FTX_LAYOUT row of `FTX_FIELD_DAY` (R291, R300): first bit of each field, `n3` for `ntx <= 16` and `n3` for `ntx >= 17`. -/
structure FieldDayLayout where
  c28To : Nat
  c28De : Nat
  r1 : Nat
  n4 : Nat
  k3 : Nat
  s7 : Nat
  n3Low : Nat
  n3High : Nat
  deriving DecidableEq, Repr

/-- FTX_LAYOUT row of `FTX_TELEMETRY` (R292, R300). -/
structure TelemetryLayout where
  t71 : Nat
  n3 : Nat
  deriving DecidableEq, Repr

/-- FTX_LAYOUT row of `FTX_EU_VHF_2` (R294, R300): first bit of each field, and `i3`. -/
structure EuVhf2Layout where
  c28To : Nat
  pTo : Nat
  c28De : Nat
  pDe : Nat
  r1 : Nat
  g15 : Nat
  i3 : Nat
  deriving DecidableEq, Repr

/-- FTX_LAYOUT row of `FTX_RTTY_RU` (R295, R300). -/
structure RttyRuLayout where
  tu : Nat
  c28To : Nat
  c28De : Nat
  r1 : Nat
  r3 : Nat
  s13 : Nat
  i3 : Nat
  deriving DecidableEq, Repr

/-- FTX_LAYOUT row of `FTX_NONSTD` (R296, R300). -/
structure NonstdLayout where
  h12 : Nat
  c58 : Nat
  h1 : Nat
  r2 : Nat
  cq : Nat
  i3 : Nat
  deriving DecidableEq, Repr

/-- FTX_LAYOUT row of `FTX_EU_VHF_5` (R297, R300). -/
structure EuVhf5Layout where
  h12 : Nat
  h22 : Nat
  r1 : Nat
  r3 : Nat
  s11 : Nat
  g25 : Nat
  i3 : Nat
  deriving DecidableEq, Repr

/-- The parameter FTX_LAYOUT (R10, R300, U14, U20): the rows of the eight variants whose layout the source does not print.
The Standard row is the source's and is no parameter. -/
structure FtxLayout where
  freeText : FreeTextLayout
  dxped : DxpedLayout
  fieldDay : FieldDayLayout
  telemetry : TelemetryLayout
  euVhf2 : EuVhf2Layout
  rttyRu : RttyRuLayout
  nonstd : NonstdLayout
  euVhf5 : EuVhf5Layout
  deriving DecidableEq, Repr

/-- The parameters of R10 and the tables of R11, fixed by the integrator before reset (R353) and written by no operation (R79). -/
structure Config where
  /-- SYM_CAP: capacity of the symbol memory in symbols; at least 162 is required (R10, R216). -/
  symCap : Nat
  /-- TEXT_MAX: largest text operand of ENC_CW and ENC_RTTY in bytes (R10). -/
  textMax : Nat
  /-- MORSE: codes of `A` to `Z` (0 to 25) and `0` to `9` (26 to 35) (R141). -/
  morse : Vector (List MorseElem) 36
  /-- ITA2_LETTERS: code to character, `none` for no character (R161, R162). -/
  ita2Letters : Vector (Option Byte) 32
  /-- ITA2_FIGURES (R161, R163). -/
  ita2Figures : Vector (Option Byte) 32
  /-- SYNC_VECTOR (R211). -/
  syncVector : Vector Bool 162
  /-- ARRL_SECTIONS: 84 abbreviations (R260). -/
  arrlSections : Vector Text 84
  /-- RTTY_STATES: 65 abbreviations (R263). -/
  rttyStates : Vector Text 65
  /-- C28_RADIX1: radix of cell 1 of the standard-callsign code (R240, conflict C2). -/
  c28Radix1 : Nat
  /-- F71_RADIX: radix of the free-text big number (R250, conflict C10). -/
  f71Radix : Nat
  /-- S7_FRAME_BIAS: added to a section index written into a frame (R291). -/
  s7FrameBias : Nat
  /-- S13_STATE_OFFSET: added to a state index (R264). -/
  s13StateOffset : Nat
  /-- FTX_LAYOUT (R300). -/
  ftxLayout : FtxLayout
  deriving DecidableEq, Repr

/-- FREE VALUE (R135, U3; log entry 5). The duration register value of symbol `i` of an `ENC_CW` sequence whose exact duration does not
fit DUR_W bits: "A duration that would exceed `2^DUR_W - 1` has no defined result". It is a function of the configuration, of the whole
operand record and of the index, because "Every operation is deterministic" (R72, R11). No body: nothing constrains it. -/
opaque Config.cwDurOverflow (cfg : Config) (text : Text) (wpm base : BitVec 32) (i : Nat) : BitVec 32

end Sys2Proof
end

