-- ==== Sys2Proof/Syntax.lean ====
section
/-! DEFINITION. The 28 operations of the opcode map (R92), one constructor per row of the opcode table.
No opcode bit is an operand (R118): the operands are the fields of the operand record OPR, which State holds. -/

namespace Sys2Proof

/-- The operations of R92, in the order of the opcode map. -/
inductive Instr where
  -- group 0x0, the sequence encoders
  | encCw
  | encRtty
  | encWspr
  -- group 0x1, the bit-field primitive
  | packBits
  | unpackBits
  -- group 0x2, the FTx field encoders
  | feC28
  | feG15
  | feG25
  | feC58
  | feF71
  | feT71
  | feHash
  | feS7
  | feState
  | feR2
  | feR3
  | feR5
  | feK3
  | feS11
  -- group 0x4, the FTx payload packers
  | ftxFreeText
  | ftxDxped
  | ftxFieldDay
  | ftxTelemetry
  | ftxStandard
  | ftxEuVhf2
  | ftxRttyRu
  | ftxNonstd
  | ftxEuVhf5
  deriving DecidableEq, Repr

end Sys2Proof
end

