-- ==== Sys2Proof/WellFormed.lean ====
section
/-! DEFINITION. What a well-formed instruction is and what a conforming configuration is.
The domain checks of the operand records (R96), which decide a VALIDATION_ERROR, are part of the meanings and stand in Machine/Operands.lean. -/

namespace Sys2Proof

/-- Every instruction term is well formed: "no opcode bit is an operand" (R118), so a constructor has no field that could be out of range. -/
def Instr.wf (_ : Instr) : Bool := true

/-- A list of fields `(first bit, width)` covers bits `0 .. n-1` exactly once each and no other bit (R286). -/
def coversExactly (fields : List (Nat × Nat)) (n : Nat) : Bool :=
  fields.all (fun f => decide (f.1 + f.2 ≤ n)) &&
    (List.range n).all fun k => (fields.filter fun f => decide (f.1 ≤ k) && decide (k < f.1 + f.2)).length == 1

namespace FtxLayout

/-- A 3-bit discriminator value (R114). -/
def disc (v : Nat) : Bool := decide (v < 8)

/-- The fields of a variant with `i3 = 0` cover bits 0 to 70; those of a variant with `i3` alone cover bits 0 to 73 (R114, R286). -/
def wf (L : FtxLayout) : Bool :=
  coversExactly [(L.freeText.f71, 71)] 71 && disc L.freeText.n3 &&
  coversExactly [(L.dxped.c28a, 28), (L.dxped.c28b, 28), (L.dxped.h10, 10), (L.dxped.r5, 5)] 71 && disc L.dxped.n3 &&
  coversExactly [(L.fieldDay.c28To, 28), (L.fieldDay.c28De, 28), (L.fieldDay.r1, 1), (L.fieldDay.n4, 4), (L.fieldDay.k3, 3),
    (L.fieldDay.s7, 7)] 71 && disc L.fieldDay.n3Low && disc L.fieldDay.n3High &&
  coversExactly [(L.telemetry.t71, 71)] 71 && disc L.telemetry.n3 &&
  coversExactly [(L.euVhf2.c28To, 28), (L.euVhf2.pTo, 1), (L.euVhf2.c28De, 28), (L.euVhf2.pDe, 1), (L.euVhf2.r1, 1),
    (L.euVhf2.g15, 15)] 74 && disc L.euVhf2.i3 &&
  coversExactly [(L.rttyRu.tu, 1), (L.rttyRu.c28To, 28), (L.rttyRu.c28De, 28), (L.rttyRu.r1, 1), (L.rttyRu.r3, 3),
    (L.rttyRu.s13, 13)] 74 && disc L.rttyRu.i3 &&
  coversExactly [(L.nonstd.h12, 12), (L.nonstd.c58, 58), (L.nonstd.h1, 1), (L.nonstd.r2, 2), (L.nonstd.cq, 1)] 74 &&
    disc L.nonstd.i3 &&
  coversExactly [(L.euVhf5.h12, 12), (L.euVhf5.h22, 22), (L.euVhf5.r1, 1), (L.euVhf5.r3, 3), (L.euVhf5.s11, 11),
    (L.euVhf5.g25, 25)] 74 && disc L.euVhf5.i3

end FtxLayout

namespace Config

/-- SYM_CAP "must be at least 162" (R10, R216). -/
def symCapOk (c : Config) : Bool := decide (162 ≤ c.symCap)

/-- Every Morse code is "a non-empty string of elements" and the code of `E` is one dot, the one entry the source confirms (R141, U15). -/
def morseOk (c : Config) : Bool := c.morse.toList.all (fun e => !e.isEmpty) && c.morse[4] == [MorseElem.dot]

/-- Space, CR and LF are in both ITA2 tables, and the two shift codes name no character (R161, R162, R163, U16). -/
def ita2Ok (c : Config) : Bool :=
  [c.ita2Letters, c.ita2Figures].all fun t =>
    t.toList.contains (some 0x20#8) && t.toList.contains (some 0x0D#8) && t.toList.contains (some 0x0A#8) &&
    t[0x1B].isNone && t[0x1F].isNone

/-- An upper-case abbreviation: not empty, every byte `A` to `Z` (R260, R263). -/
def abbrevOk (t : Text) : Bool := !t.isEmpty && t.all fun b => decide (0x41 ≤ b.toNat) && decide (b.toNat ≤ 0x5A)

/-- The two tables hold distinct upper-case abbreviations (R260, R263). -/
def tablesOk (c : Config) : Bool :=
  c.arrlSections.toList.all abbrevOk && decide c.arrlSections.toList.Nodup &&
    c.rttyStates.toList.all abbrevOk && decide c.rttyStates.toList.Nodup

/-- The numeric parameters fit their fields: `C28_RADIX1` is the size of the alphabet of cell 1 (R240); the radix of f71 is at least its
42 characters and 13 digits of it fit 71 bits (R250); a section index with its bias fits the 7-bit field (R291);
a state value fits 13 bits and is never the sentinel 0 (R264). -/
def numbersOk (c : Config) : Bool :=
  decide (c.c28Radix1 = 36) && decide (42 ≤ c.f71Radix) && decide (c.f71Radix ^ 13 < 2 ^ 71) &&
    decide (c.s7FrameBias + 83 < 128) && decide (0 < c.s13StateOffset) && decide (c.s13StateOffset + 64 < 2 ^ 13)

/-- A configuration that meets every condition the spec states of it (R10, R353). -/
def wf (c : Config) : Bool :=
  c.symCapOk && c.morseOk && c.ita2Ok && c.tablesOk && c.numbersOk && c.ftxLayout.wf

end Config

end Sys2Proof
end

