-- ==== Sys2Proof/Decode.lean ====
section
/-! DEFINITION. The opcode decoder (R90 to R94), total on every byte, and after it the encoder written from the `encoding` column of the
opcode table (R118). There is one command format, 8 bits of opcode, and no other instruction form (R90, R94). -/

namespace Sys2Proof

/-- Why a byte names no operation: R93 lists the illegal opcodes; the engine completes with ILLEGAL_COMMAND on them (R324). -/
inductive DecodeError where
  | illegalOpcode (op : Byte)
  deriving DecidableEq, Repr

/-- `group = opcode[7:4]` (R91). -/
def opcodeGroup (op : Byte) : Nat := op.toNat / 16

/-- `index = opcode[3:0]` (R91). -/
def opcodeIndex (op : Byte) : Nat := op.toNat % 16

/-- The opcode map of R92 by group and index. `none` is an illegal opcode (R93). -/
def opcodeMap (group index : Nat) : Option Instr :=
  match group, index with
  | 0x0, 0x1 => some .encCw
  | 0x0, 0x2 => some .encRtty
  | 0x0, 0x3 => some .encWspr
  | 0x1, 0x0 => some .packBits
  | 0x1, 0x1 => some .unpackBits
  | 0x2, 0x0 => some .feC28
  | 0x2, 0x1 => some .feG15
  | 0x2, 0x2 => some .feG25
  | 0x2, 0x3 => some .feC58
  | 0x2, 0x4 => some .feF71
  | 0x2, 0x5 => some .feT71
  | 0x2, 0x6 => some .feHash
  | 0x2, 0x7 => some .feS7
  | 0x2, 0x8 => some .feState
  | 0x2, 0x9 => some .feR2
  | 0x2, 0xA => some .feR3
  | 0x2, 0xB => some .feR5
  | 0x2, 0xC => some .feK3
  | 0x2, 0xD => some .feS11
  | 0x4, 0x0 => some .ftxFreeText
  | 0x4, 0x1 => some .ftxDxped
  | 0x4, 0x2 => some .ftxFieldDay
  | 0x4, 0x3 => some .ftxTelemetry
  | 0x4, 0x4 => some .ftxStandard
  | 0x4, 0x5 => some .ftxEuVhf2
  | 0x4, 0x6 => some .ftxRttyRu
  | 0x4, 0x7 => some .ftxNonstd
  | 0x4, 0x8 => some .ftxEuVhf5
  | _, _ => none

/-- The decoder: "The opcode alone selects the operation" (R94). -/
def decode (op : Byte) : Except DecodeError Instr :=
  match opcodeMap (opcodeGroup op) (opcodeIndex op) with
  | some i => .ok i
  | none => .error (.illegalOpcode op)

/-- The encoder: the 8-bit opcode of an operation, most significant bit first (R92, R118). -/
def encode : Instr → Byte
  | .encCw => 0b00000001
  | .encRtty => 0b00000010
  | .encWspr => 0b00000011
  | .packBits => 0b00010000
  | .unpackBits => 0b00010001
  | .feC28 => 0b00100000
  | .feG15 => 0b00100001
  | .feG25 => 0b00100010
  | .feC58 => 0b00100011
  | .feF71 => 0b00100100
  | .feT71 => 0b00100101
  | .feHash => 0b00100110
  | .feS7 => 0b00100111
  | .feState => 0b00101000
  | .feR2 => 0b00101001
  | .feR3 => 0b00101010
  | .feR5 => 0b00101011
  | .feK3 => 0b00101100
  | .feS11 => 0b00101101
  | .ftxFreeText => 0b01000000
  | .ftxDxped => 0b01000001
  | .ftxFieldDay => 0b01000010
  | .ftxTelemetry => 0b01000011
  | .ftxStandard => 0b01000100
  | .ftxEuVhf2 => 0b01000101
  | .ftxRttyRu => 0b01000110
  | .ftxNonstd => 0b01000111
  | .ftxEuVhf5 => 0b01001000

/-- The instruction the decoder reads from a table word: one byte, bit 0 its least significant bit.
A command is exactly 8 bits (R90), so any other length or a number that does not fit it is no command. -/
def decodeTableWord (nbits w : Nat) : Option Instr :=
  if nbits = 8 ∧ w < 256 then
    match decode (BitVec.ofNat 8 w) with
    | .ok i => some i
    | .error _ => none
  else none

end Sys2Proof
end

