-- ==== Sys2Proof/Machine/Chars.lean ====
section
/-! DEFINITION. Characters and strings (R16), alphabets (R232) and the mixed-radix value (R233). -/

namespace Sys2Proof.Machine

/-- The bytes of an ASCII string, used to write tables and examples readably. -/
def ascii (s : String) : Text := s.toList.map fun c => BitVec.ofNat 8 c.toNat

/-- The space character `0x20` (R16). -/
def space : Byte := 0x20

/-- `is_digit(c)` holds for `0x30` to `0x39` (R16). -/
def isDigit (c : Byte) : Bool := decide (0x30 ≤ c.toNat) && decide (c.toNat ≤ 0x39)

/-- `is_upper(c)` holds for `0x41` to `0x5A` (R16). -/
def isUpper (c : Byte) : Bool := decide (0x41 ≤ c.toNat) && decide (c.toNat ≤ 0x5A)

/-- `is_lower(c)` holds for `0x61` to `0x7A` (R16). -/
def isLower (c : Byte) : Bool := decide (0x61 ≤ c.toNat) && decide (c.toNat ≤ 0x7A)

/-- `is_letter(c)`: upper or lower case (R16). -/
def isLetter (c : Byte) : Bool := isUpper c || isLower c

/-- `upper(c)` maps `0x61 .. 0x7A` to `0x41 .. 0x5A` and leaves every other byte unchanged (R16). -/
def upper (c : Byte) : Byte := if isLower c then c - 0x20 else c

/-- Case folding of a whole text. -/
def upperText (t : Text) : Text := t.map upper

/-- `c` is a letter from `A` to the upper-case letter `hi` (grid locators: `A`-`R`, R192 and R243; `A`-`X`, R246). -/
def upperUpTo (hi : Nat) (c : Byte) : Bool := decide (0x41 ≤ c.toNat) && decide (c.toNat ≤ hi)

/-- Value of a digit character, `c - 0x30` (R198, R201, R243). -/
def digitVal (c : Byte) : Nat := c.toNat - 0x30

/-- Value of an upper-case letter counted from `A`, `c - 0x41` (R201, R243, R246). -/
def letterVal (c : Byte) : Nat := c.toNat - 0x41

/-- `index(A, c)`, the 0-based position of the first occurrence of `c` in the alphabet `A`, or `none` (R16, `idx` of R232). -/
def idx (A : Text) (c : Byte) : Option Nat := A.idxOf? c

/-- `A37` of R232. -/
def a37 : Text := ascii " 0123456789ABCDEFGHIJKLMNOPQRSTUVWXYZ"

/-- `A36` of R232. -/
def a36 : Text := ascii "0123456789ABCDEFGHIJKLMNOPQRSTUVWXYZ"

/-- `A10` of R232. -/
def a10 : Text := ascii "0123456789"

/-- `A27` of R232. -/
def a27 : Text := ascii " ABCDEFGHIJKLMNOPQRSTUVWXYZ"

/-- `A38` of R232. -/
def a38 : Text := ascii " 0123456789ABCDEFGHIJKLMNOPQRSTUVWXYZ/"

/-- `A43` of R232: 42 characters (R250, conflict C10). -/
def a43 : Text := ascii " 0123456789ABCDEFGHIJKLMNOPQRSTUVWXYZ+-./?"

/-- The cell values of a text under a partial character code; `none` when some character has no cell value (R248, R251, R254). -/
def cellsWith (f : Byte → Option Nat) : Text → Option (List Nat)
  | [] => some []
  | c :: t =>
    match f c, cellsWith f t with
    | some v, some vs => some (v :: vs)
    | _, _ => none

/-- `mixed(v, r)`: `n <- 0; for i: n <- n * r[i] + v[i]`, on the list of pairs `(v[i], r[i])`, cell 0 first (R233). -/
def mixed (cells : List (Nat × Nat)) : Nat := cells.foldl (fun n p => n * p.2 + p.1) 0

/-- The mixed-radix value of cells that all have the radix `r` (R236, R248, R251). -/
def mixedUniform (r : Nat) (cells : List Nat) : Nat := cells.foldl (fun n v => n * r + v) 0

/-- `t` padded on the right with spaces to `n` characters (R196, R239, R248). -/
def padRight (n : Nat) (t : Text) : Text := t ++ List.replicate (n - t.length) space

/-- `t` with spaces put in front to make `n` characters (R236). -/
def padLeft (n : Nat) (t : Text) : Text := List.replicate (n - t.length) space ++ t

end Sys2Proof.Machine
end

