-- ==== Sys2Proof/Machine/Tables.lean ====
section
/-! DEFINITION. The default content of the configuration tables and parameters (R10, R11), transcribed from the rules that print them.
Their origin is the spec's "from general knowledge, not in source" (log entry 3); the meanings read them only through `State.cfg`. -/

namespace Sys2Proof.Machine

/-- A Morse code written with `.` and `-`. -/
def morseCodeOf (s : String) : List MorseElem := s.toList.map fun c => if c = '-' then .dash else .dot

/-- MORSE, international Morse code, `A` to `Z` then `0` to `9` (R141). -/
def defaultMorse : Vector (List MorseElem) 36 :=
  #v[
    morseCodeOf ".-", morseCodeOf "-...", morseCodeOf "-.-.", morseCodeOf "-..", morseCodeOf ".", morseCodeOf "..-.",
    morseCodeOf "--.", morseCodeOf "....", morseCodeOf "..", morseCodeOf ".---", morseCodeOf "-.-", morseCodeOf ".-..",
    morseCodeOf "--", morseCodeOf "-.", morseCodeOf "---", morseCodeOf ".--.", morseCodeOf "--.-", morseCodeOf ".-.",
    morseCodeOf "...", morseCodeOf "-", morseCodeOf "..-", morseCodeOf "...-", morseCodeOf ".--", morseCodeOf "-..-",
    morseCodeOf "-.--", morseCodeOf "--..", morseCodeOf "-----", morseCodeOf ".----", morseCodeOf "..---", morseCodeOf "...--",
    morseCodeOf "....-", morseCodeOf ".....", morseCodeOf "-....", morseCodeOf "--...", morseCodeOf "---..", morseCodeOf "----."]

/-- ITA2_LETTERS, code 0 first (R162). -/
def defaultIta2Letters : Vector (Option Byte) 32 :=
  #v[
    none, some 0x45, some 0x0A, some 0x41, some 0x20, some 0x53, some 0x49, some 0x55,
    some 0x0D, some 0x44, some 0x52, some 0x4A, some 0x4E, some 0x46, some 0x43, some 0x4B,
    some 0x54, some 0x5A, some 0x4C, some 0x57, some 0x48, some 0x59, some 0x50, some 0x51,
    some 0x4F, some 0x42, some 0x47, none, some 0x4D, some 0x58, some 0x56, none]

/-- ITA2_FIGURES, code 0 first; the eight variant cells are those of the US variant, as R163 defaults them (U6). -/
def defaultIta2Figures : Vector (Option Byte) 32 :=
  #v[
    none, some 0x33, some 0x0A, some 0x2D, some 0x20, some 0x07, some 0x38, some 0x37,
    some 0x0D, some 0x24, some 0x34, some 0x27, some 0x2C, some 0x21, some 0x3A, some 0x28,
    some 0x35, some 0x22, some 0x29, some 0x32, some 0x23, some 0x36, some 0x30, some 0x31,
    some 0x39, some 0x3F, some 0x26, none, some 0x2E, some 0x2F, some 0x3B, none]

/-- SYNC_VECTOR, index 0 first, in the rows of 20 of R211. -/
def defaultSyncVector : Vector Bool 162 :=
  (#v[
    1, 1, 0, 0, 0, 0, 0, 0, 1, 0, 0, 0, 1, 1, 1, 0, 0, 0, 1, 0,
    0, 1, 0, 1, 1, 1, 1, 0, 0, 0, 0, 0, 0, 0, 1, 0, 0, 1, 0, 1,
    0, 0, 0, 0, 0, 0, 1, 0, 1, 1, 0, 0, 1, 1, 0, 1, 0, 0, 0, 1,
    1, 0, 1, 0, 0, 0, 0, 1, 1, 0, 1, 0, 1, 0, 1, 0, 1, 0, 0, 1,
    0, 0, 1, 0, 1, 1, 0, 0, 0, 1, 1, 0, 1, 0, 1, 0, 0, 0, 1, 0,
    0, 0, 0, 0, 1, 0, 0, 1, 0, 0, 1, 1, 1, 0, 1, 1, 0, 0, 1, 1,
    0, 1, 0, 0, 0, 1, 1, 1, 0, 0, 0, 0, 0, 1, 0, 1, 0, 0, 1, 1,
    0, 0, 0, 0, 0, 0, 0, 1, 1, 0, 1, 0, 1, 1, 0, 0, 0, 1, 1, 0,
    0, 0] : Vector (BitVec 1) 162).map fun b => b == 1#1

/-- ARRL_SECTIONS, index 0 first (R260). -/
def defaultArrlSections : Vector Text 84 :=
  #v[
    ascii "AB", ascii "AK", ascii "AL", ascii "AR", ascii "AZ", ascii "BC", ascii "CO", ascii "CT", ascii "DE", ascii "EB", ascii "EMA", ascii "ENY", ascii "EPA", ascii "EWA",
    ascii "GA", ascii "GTA", ascii "IA", ascii "ID", ascii "IL", ascii "IN", ascii "KS", ascii "KY", ascii "LA", ascii "LAX", ascii "MAR", ascii "MB", ascii "MDC", ascii "ME",
    ascii "MI", ascii "MN", ascii "MO", ascii "MS", ascii "MT", ascii "NC", ascii "ND", ascii "NE", ascii "NFL", ascii "NH", ascii "NL", ascii "NLI", ascii "NM", ascii "NNJ",
    ascii "NNY", ascii "NT", ascii "NTX", ascii "NV", ascii "OH", ascii "OK", ascii "ONE", ascii "ONN", ascii "ONS", ascii "OR", ascii "ORG", ascii "PAC", ascii "PR", ascii "QC",
    ascii "RI", ascii "SB", ascii "SC", ascii "SCV", ascii "SD", ascii "SDG", ascii "SF", ascii "SFL", ascii "SJV", ascii "SK", ascii "SNJ", ascii "STX", ascii "SV", ascii "TN",
    ascii "UT", ascii "VA", ascii "VI", ascii "VT", ascii "WCF", ascii "WI", ascii "WMA", ascii "WNY", ascii "WPA", ascii "WTX", ascii "WV", ascii "WWA", ascii "WY", ascii "DX"]

/-- RTTY_STATES, index 0 first (R263). -/
def defaultRttyStates : Vector Text 65 :=
  #v[
    ascii "AL", ascii "AK", ascii "AZ", ascii "AR", ascii "CA", ascii "CO", ascii "CT", ascii "DE", ascii "FL", ascii "GA", ascii "HI", ascii "ID", ascii "IL", ascii "IN",
    ascii "IA", ascii "KS", ascii "KY", ascii "LA", ascii "ME", ascii "MD", ascii "MA", ascii "MI", ascii "MN", ascii "MS", ascii "MO", ascii "MT", ascii "NE", ascii "NV",
    ascii "NH", ascii "NJ", ascii "NM", ascii "NY", ascii "NC", ascii "ND", ascii "OH", ascii "OK", ascii "OR", ascii "PA", ascii "RI", ascii "SC", ascii "SD", ascii "TN",
    ascii "TX", ascii "UT", ascii "VT", ascii "VA", ascii "WA", ascii "WV", ascii "WI", ascii "WY", ascii "NB", ascii "NS", ascii "QC", ascii "ON", ascii "MB", ascii "SK",
    ascii "AB", ascii "BC", ascii "NWT", ascii "NF", ascii "LB", ascii "NU", ascii "YT", ascii "PEI", ascii "DC"]

/-- FTX_LAYOUT (R300), with the discriminator values of R115. -/
def defaultFtxLayout : FtxLayout where
  freeText := { f71 := 0, n3 := 0 }
  dxped := { c28a := 0, c28b := 28, h10 := 56, r5 := 66, n3 := 1 }
  fieldDay := { c28To := 0, c28De := 28, r1 := 56, n4 := 57, k3 := 61, s7 := 64, n3Low := 3, n3High := 4 }
  telemetry := { t71 := 0, n3 := 5 }
  euVhf2 := { c28To := 0, pTo := 28, c28De := 29, pDe := 57, r1 := 58, g15 := 59, i3 := 2 }
  rttyRu := { tu := 0, c28To := 1, c28De := 29, r1 := 57, r3 := 58, s13 := 61, i3 := 3 }
  nonstd := { h12 := 0, c58 := 12, h1 := 70, r2 := 71, cq := 73, i3 := 4 }
  euVhf5 := { h12 := 0, h22 := 12, r1 := 34, r3 := 35, s11 := 38, g25 := 49, i3 := 5 }

/-- The configuration the reset state of the model holds: the spec's defaults where it prints one. SYM_CAP and TEXT_MAX are `OPEN` (U21):
162, the least conforming capacity and the one the spec's programs use, and 1024, are the model's own (log entry 2). -/
def defaultConfig : Config where
  symCap := 162
  textMax := 1024
  morse := defaultMorse
  ita2Letters := defaultIta2Letters
  ita2Figures := defaultIta2Figures
  syncVector := defaultSyncVector
  arrlSections := defaultArrlSections
  rttyStates := defaultRttyStates
  c28Radix1 := 36
  f71Radix := 43
  s7FrameBias := 1
  s13StateOffset := 8001
  ftxLayout := defaultFtxLayout

end Sys2Proof.Machine
end

