-- ==== Sys2Proof/Machine/State.lean ====
section
/-! DEFINITION. The state of the engine as plain data (R21), its operand records (R25, R99 to R113), the reasons a step or a port access can
stop, and the state after reset (R39, R350). -/

namespace Sys2Proof.Machine

/-! ## Operand types (R105 to R108) -/

/-- The modifier of `CQ_MOD`, itself a union (R105): sub-tag 0 `NUM(v)`, sub-tag 1 `LET(s)`; `other` is an unknown sub-tag (R242). -/
inductive CqMod where
  | num (v : BitVec 16)
  | lets (s : Text)
  | other (subTag : Nat)
  deriving DecidableEq, Repr, Inhabited

/-- `CallCell` (R105): tags 0 to 5 in order; `other` is an unknown tag, which completes with VALIDATION_ERROR (R242). -/
inductive CallCell where
  | std (token : Text)
  | cq
  | cqMod (m : CqMod)
  | de
  | qrz
  | hash22 (h : BitVec 32)
  | other (tag : Nat)
  deriving DecidableEq, Repr, Inhabited

/-- `G15Cell` (R106): tags 0 to 5 in order; `other` is an unknown tag (R245). The report is an `s16`. -/
inductive G15Cell where
  | grid (g : Str255)
  | report (r : BitVec 16)
  | blank
  | rrr
  | rr73
  | s73
  | other (tag : Nat)
  deriving DecidableEq, Repr, Inhabited

/-- `S13Cell` (R107): tag 0 `SERIAL(n)`, tag 1 `STATE(a)`; `other` is an unknown tag. -/
inductive S13Cell where
  | serial (n : BitVec 16)
  | state (a : Str255)
  | other (tag : Nat)
  deriving DecidableEq, Repr, Inhabited

/-- `R2Word` (R108): 0 `BLANK`, 1 `RRR`, 2 `RR73`, 3 `S73`; `other` is a word above 3 (R266). -/
inductive R2Word where
  | blank
  | rrr
  | rr73
  | s73
  | other (word : Nat)
  deriving DecidableEq, Repr, Inhabited

/-! ## Operand records: one structure type per opcode (R99) -/

/-- Operand record of `ENC_CW` (R100). -/
structure EncCwOpr where
  text : Text  -- `str(0..TEXT_MAX)`
  wpm : BitVec 32  -- `u32`, words per minute
  base : BitVec 32  -- `u32`, the base frequency copied to SEQ_BASE
  deriving DecidableEq, Repr, Inhabited

/-- Operand record of `ENC_RTTY` (R101, R102). -/
structure EncRttyOpr where
  text : Text  -- `str(0..TEXT_MAX)`
  baudRate : Rat  -- `rat`
  shiftHz : BitVec 32  -- `u32`
  stopBits : Rat  -- `rat`
  reverseShift : Bool  -- `bit`
  centerOnCarrier : Bool  -- `bit`
  base : BitVec 32  -- `u32`
  deriving DecidableEq, Repr, Inhabited

/-- Operand record of `ENC_WSPR` (R103). -/
structure EncWsprOpr where
  callsign : Str255  -- `str(0..255)`
  grid : Str255  -- `str(0..255)`
  powerDbm : BitVec 16  -- `s16`, read by `toInt`
  base : BitVec 32  -- `u32`
  deriving DecidableEq, Repr, Inhabited

/-- Operand record of `PACK_BITS` (R109). -/
structure PackBitsOpr where
  off : BitVec 8  -- `u8`
  width : BitVec 8  -- `u8`
  value : BitVec 64  -- `u64`
  deriving DecidableEq, Repr, Inhabited

/-- Operand record of `UNPACK_BITS` (R109). -/
structure UnpackBitsOpr where
  off : BitVec 8  -- `u8`
  width : BitVec 8  -- `u8`
  deriving DecidableEq, Repr, Inhabited

/-- Operand record of `FE_C28` (R110). -/
structure FeC28Opr where
  cell : CallCell
  deriving DecidableEq, Repr, Inhabited

/-- Operand record of `FE_G15` (R110). -/
structure FeG15Opr where
  cell : G15Cell
  deriving DecidableEq, Repr, Inhabited

/-- Operand record of `FE_G25` (R110). -/
structure FeG25Opr where
  grid6 : Str255  -- `str(0..255)`
  deriving DecidableEq, Repr, Inhabited

/-- Operand record of `FE_C58` (R110). -/
structure FeC58Opr where
  call : Text  -- `str(0..11)`
  deriving DecidableEq, Repr, Inhabited

/-- Operand record of `FE_F71` (R110). -/
structure FeF71Opr where
  text : Text  -- `str(0..13)`
  deriving DecidableEq, Repr, Inhabited

/-- Operand record of `FE_T71` (R110). -/
structure FeT71Opr where
  hex : Text  -- `str(0..18)`
  deriving DecidableEq, Repr, Inhabited

/-- Operand record of `FE_HASH` (R110). -/
structure FeHashOpr where
  call : Text  -- `str(0..11)`
  width : BitVec 8  -- `u8`
  deriving DecidableEq, Repr, Inhabited

/-- Operand record of `FE_S7` (R110). -/
structure FeS7Opr where
  sec : Str255  -- `section : str(0..255)`
  deriving DecidableEq, Repr, Inhabited

/-- Operand record of `FE_STATE` (R110). -/
structure FeStateOpr where
  state : Str255  -- `str(0..255)`
  deriving DecidableEq, Repr, Inhabited

/-- Operand record of `FE_R2` (R110). -/
structure FeR2Opr where
  word : R2Word
  deriving DecidableEq, Repr, Inhabited

/-- Operand record of `FE_R3` (R110). -/
structure FeR3Opr where
  rst : BitVec 8  -- `u8`
  deriving DecidableEq, Repr, Inhabited

/-- Operand record of `FE_R5` (R110). -/
structure FeR5Opr where
  report : BitVec 16  -- `s16`
  deriving DecidableEq, Repr, Inhabited

/-- Operand record of `FE_K3` (R110). -/
structure FeK3Opr where
  cls : Byte  -- `class : char`
  deriving DecidableEq, Repr, Inhabited

/-- Operand record of `FE_S11` (R110). -/
structure FeS11Opr where
  serial : BitVec 16  -- `u16`
  deriving DecidableEq, Repr, Inhabited

/-- Operand record of `FTX_FREE_TEXT` (R111). -/
structure FtxFreeTextOpr where
  text : Text  -- `str(0..13)`
  deriving DecidableEq, Repr, Inhabited

/-- Operand record of `FTX_DXPED` (R111). -/
structure FtxDxpedOpr where
  callA : CallCell
  callB : CallCell
  dxCall : Text  -- `str(0..11)`, hashed by the packer (R113)
  report : BitVec 16  -- `s16`
  deriving DecidableEq, Repr, Inhabited

/-- Operand record of `FTX_FIELD_DAY` (R111). -/
structure FtxFieldDayOpr where
  callTo : CallCell
  callDe : CallCell
  r : Bool  -- `bit`
  ntx : BitVec 8  -- `u8`, legal range 1 to 32
  cls : Byte  -- `class : char`
  sec : Str255  -- `section : str(0..255)`
  deriving DecidableEq, Repr, Inhabited

/-- Operand record of `FTX_TELEMETRY` (R111). -/
structure FtxTelemetryOpr where
  hex : Text  -- `str(0..18)`
  deriving DecidableEq, Repr, Inhabited

/-- Operand record of `FTX_STANDARD` (R112). -/
structure FtxStandardOpr where
  callTo : CallCell
  roverTo : Bool  -- `bit`
  callDe : CallCell
  roverDe : Bool  -- `bit`
  r : Bool  -- `bit`
  g15 : G15Cell
  deriving DecidableEq, Repr, Inhabited

/-- Operand record of `FTX_EU_VHF_2` (R112). -/
structure FtxEuVhf2Opr where
  callTo : CallCell
  pTo : Bool  -- `bit`
  callDe : CallCell
  pDe : Bool  -- `bit`
  r : Bool  -- `bit`
  g15 : G15Cell
  deriving DecidableEq, Repr, Inhabited

/-- Operand record of `FTX_RTTY_RU` (R112). -/
structure FtxRttyRuOpr where
  tu : Bool  -- `bit`
  callTo : CallCell
  callDe : CallCell
  r : Bool  -- `bit`
  rst : BitVec 8  -- `u8`
  s13 : S13Cell
  deriving DecidableEq, Repr, Inhabited

/-- Operand record of `FTX_NONSTD` (R112). -/
structure FtxNonstdOpr where
  hashCall : Text  -- `str(0..11)`, hashed by the packer (R113)
  fullCall : Text  -- `str(0..11)`
  h1 : Bool  -- `bit`
  word : R2Word
  cq : Bool  -- `bit`
  deriving DecidableEq, Repr, Inhabited

/-- Operand record of `FTX_EU_VHF_5` (R112). -/
structure FtxEuVhf5Opr where
  callTo : Text  -- `str(0..11)`, hashed by the packer (R113)
  callDe : Text  -- `str(0..11)`, hashed by the packer (R113)
  r : Bool  -- `bit`
  rst : BitVec 8  -- `u8`
  serial : BitVec 16  -- `u16`
  grid6 : Str255  -- `str(0..255)`
  deriving DecidableEq, Repr, Inhabited

/-- An operand record as the host writes it, one shape per opcode (R25, R99): "the host first writes every field of the operand record the
opcode needs" (R90), so a record is complete and well typed. -/
inductive OprRecord where
  | encCw (r : EncCwOpr)
  | encRtty (r : EncRttyOpr)
  | encWspr (r : EncWsprOpr)
  | packBits (r : PackBitsOpr)
  | unpackBits (r : UnpackBitsOpr)
  | feC28 (r : FeC28Opr)
  | feG15 (r : FeG15Opr)
  | feG25 (r : FeG25Opr)
  | feC58 (r : FeC58Opr)
  | feF71 (r : FeF71Opr)
  | feT71 (r : FeT71Opr)
  | feHash (r : FeHashOpr)
  | feS7 (r : FeS7Opr)
  | feState (r : FeStateOpr)
  | feR2 (r : FeR2Opr)
  | feR3 (r : FeR3Opr)
  | feR5 (r : FeR5Opr)
  | feK3 (r : FeK3Opr)
  | feS11 (r : FeS11Opr)
  | ftxFreeText (r : FtxFreeTextOpr)
  | ftxDxped (r : FtxDxpedOpr)
  | ftxFieldDay (r : FtxFieldDayOpr)
  | ftxTelemetry (r : FtxTelemetryOpr)
  | ftxStandard (r : FtxStandardOpr)
  | ftxEuVhf2 (r : FtxEuVhf2Opr)
  | ftxRttyRu (r : FtxRttyRuOpr)
  | ftxNonstd (r : FtxNonstdOpr)
  | ftxEuVhf5 (r : FtxEuVhf5Opr)
  deriving DecidableEq, Repr, Inhabited

/-- OPR, the operand record: "One record of typed fields whose shape depends on the opcode" (R25). The host's write replaces it whole, and the
engine never writes it. `unwritten` is the value named for OPR at reset, where its content is unspecified (R350): a command that reads it runs
on unknown operands (R352, log entry 1). -/
inductive Opr where
  | unwritten
  | record (r : OprRecord)
  deriving DecidableEq, Repr, Inhabited

/-- One operand record of every shape: what each opcode reads in OPR. -/
structure Operands where
  encCw : EncCwOpr
  encRtty : EncRttyOpr
  encWspr : EncWsprOpr
  packBits : PackBitsOpr
  unpackBits : UnpackBitsOpr
  feC28 : FeC28Opr
  feG15 : FeG15Opr
  feG25 : FeG25Opr
  feC58 : FeC58Opr
  feF71 : FeF71Opr
  feT71 : FeT71Opr
  feHash : FeHashOpr
  feS7 : FeS7Opr
  feState : FeStateOpr
  feR2 : FeR2Opr
  feR3 : FeR3Opr
  feR5 : FeR5Opr
  feK3 : FeK3Opr
  feS11 : FeS11Opr
  ftxFreeText : FtxFreeTextOpr
  ftxDxped : FtxDxpedOpr
  ftxFieldDay : FtxFieldDayOpr
  ftxTelemetry : FtxTelemetryOpr
  ftxStandard : FtxStandardOpr
  ftxEuVhf2 : FtxEuVhf2Opr
  ftxRttyRu : FtxRttyRuOpr
  ftxNonstd : FtxNonstdOpr
  ftxEuVhf5 : FtxEuVhf5Opr
  deriving DecidableEq, Repr, Inhabited

end Sys2Proof.Machine

namespace Sys2Proof

/-- FREE VALUE (R25, R352, U1; log entry 1). The operands a command finds in an OPR that does not hold its record: "a host that writes `CMD`
before writing the operand record issues a command whose operands are unknown". The engine only reads OPR, so they are a function of what it
holds (R25, R72). No body: nothing constrains any of them but its type. -/
opaque Config.unknownOperands (opr : Machine.Opr) : Machine.Operands

end Sys2Proof

namespace Sys2Proof.Machine

/-! ## Registers -/

/-- `STATUS.code` (R27): 5 to 7 are never produced. -/
inductive StatusCode where
  /-- 0: no operation has completed since reset. -/
  | idle
  /-- 1 -/
  | ok
  /-- 2 -/
  | validationError
  /-- 3 -/
  | allocationError
  /-- 4 -/
  | illegalCommand
  deriving DecidableEq, Repr

/-- `SEQ_MODE` (R31), 2 bits: 0 the empty name, 1 "CW", 2 "RTTY", 3 "WSPR". -/
inductive SeqMode where
  | none
  | cw
  | rtty
  | wspr
  deriving DecidableEq, Repr

/-- One entry of SYM, a TxSymbol (R33): an exact signed rational frequency offset in hertz (R17), a duration in microseconds of
DUR_W = 32 bits, and the carrier flag. -/
structure TxSymbol where
  freq : Rat
  dur : BitVec 32
  on : Bool
  deriving DecidableEq, Repr

/-- The complete list of state of R21, and the configuration the machine was built with.
`cmd` is `none` between commands: "the register holds no state between commands" (R26); `some op` is an opcode the host has written and the
engine has not executed yet. `sym` lists the entries that hold a value, `SYM[0]` first (R33, U2).
`cfg` is the configuration of R10 and R353, which every operation reads and none writes (R11, R79; log entry 2). -/
structure State where
  cfg : Config
  cmd : Option Byte
  opr : Opr
  status : StatusCode
  result : BitVec 64
  b71 : Buf 9
  frame : Buf 10
  seqMode : SeqMode
  seqBase : BitVec 32
  seqLen : Nat
  seqCursor : Nat
  seqRepeat : Bool
  sym : List TxSymbol
  deriving DecidableEq, Repr

/-- Why the machine stops on an access that the spec says does not exist. No operation of the engine raises one: they are raised by the
register port only (Machine/Port.lean), and all are safe (the model stops where a real bus would answer something). -/
inductive Fault where
  /-- A host or player read of `SYM[i]` with `i >= SEQ_LEN`: "a model faults such a read" (R33, U2). Raised by `portRead`. Safe. -/
  | symBeyondSeqLen (i : Nat)
  /-- A register number, or an index into a window, that the register map of R36 does not list. Raised by `portRead`, `portWrite`. Safe. -/
  | noSuchRegister (n : Nat)
  /-- An access in a direction or by an agent that R36 does not list for the register. Raised by `portRead`, `portWrite`. Safe. -/
  | noAccessRight (n : Nat)
  deriving DecidableEq, Repr

/-- Why a command has no meaning: "a model gives the command no meaning and refuses it". -/
inductive Refusal where
  /-- An instruction that has no meaning in this model yet. Raised by `exec` only; no arm answers it in this package. Safe. -/
  | notModelled (mnemonic : String)
  /-- `ENC_WSPR` on a callsign that passes validation and is not representable: "a model gives the command no meaning and refuses it"
  (R197, U9). Raised by `execEncWspr`. Safe. -/
  | wsprUnrepresentable
  /-- A character outside the alphabet of c58, f71, t71 or the hash: "the result is unspecified; a model refuses the input" (R248, R251, R254,
  R257, U11). Raised by the meanings of FE_C58, FE_F71, FE_T71, FE_HASH and of the packers that use them. Safe. -/
  | charOutsideAlphabet
  deriving DecidableEq, Repr

/-- Reset with the configuration the engine was configured with, which "reset does not change" (R350, R351). -/
def State.resetWith (cfg : Config) : State where
  cfg := cfg
  cmd := none
  opr := .unwritten
  status := .idle
  result := 0
  b71 := Vector.replicate 9 0
  frame := Vector.replicate 10 0
  seqMode := .none
  seqBase := 0
  seqLen := 0
  seqCursor := 0
  seqRepeat := false
  sym := []

/-- The state after reset (R39, R350) in the default configuration. -/
def State.reset : State := State.resetWith defaultConfig

end Sys2Proof.Machine
end

