-- ==== Sys2Proof/Machine/Flags.lean ====
section
/-! DEFINITION. The engine's only status flag (R35): the numbers of `STATUS.code` and of `SEQ_MODE` as a reader sees them, and the validity
conditions an operation turns into a status. -/

namespace Sys2Proof.Machine

/-- The value read from STATUS: the code in bits 2 to 0, "bits 7 to 3 read as zero" (R27, R321). -/
def statusWord : StatusCode → BitVec 8
  | .idle => 0
  | .ok => 1
  | .validationError => 2
  | .allocationError => 3
  | .illegalCommand => 4

/-- `SEQ_MODE` as its 2-bit number (R31). -/
def seqModeWord : SeqMode → BitVec 2
  | .none => 0
  | .cw => 1
  | .rtty => 2
  | .wspr => 3

/-- RESULT "read as a two's-complement signed integer" (R28). -/
def resultSigned (s : State) : Int := s.result.toInt

end Sys2Proof.Machine
end

