-- ==== Sys2Proof/Machine/Ops.lean ====
section
/-! DEFINITION. The named operations on buffers, on the transient symbol list and on the result registers: the bit-field primitive
(R61 to R68), `emit` and `extend` (R135), and the completion rules (R131 to R134, R324), the error completion among them, which is this
engine's counterpart of taking an exception (R330). -/

namespace Sys2Proof.Machine

/-! ## The bit-field primitive -/

/-- Buffer bit `k` is bit `7 - (k mod 8)` of byte `k div 8` (R14, R61). -/
def bufBit {n : Nat} (B : Buf n) (k : Nat) : Bool := (B[k / 8]?.getD 0).getLsbD (7 - k % 8)

/-- One step of the loop of R67: `B[k div 8] <- (B[k div 8] & ~(0x80 >> (k mod 8))) | (bit * (0x80 >> (k mod 8)))`. -/
def setBufBit {n : Nat} (B : Buf n) (k : Nat) (bit : Bool) : Buf n :=
  let mask : Byte := 0x80#8 >>> (k % 8)
  B.setIfInBounds (k / 8) ((B[k / 8]?.getD 0 &&& ~~~mask) ||| (if bit then mask else 0))

/-- `BufRead(B, off, w)` (R66): the unsigned integer whose bit `w-1-i` is buffer bit `off + i`. -/
def bufRead {n : Nat} (B : Buf n) (off : Nat) : Nat → Nat
  | 0 => 0
  | w + 1 => 2 * bufRead B off w + (bufBit B (off + w)).toNat

/-- `BufWrite(B, off, w, v)` (R67): sets buffer bit `off + i` to bit `w-1-i` of `v mod 2^w` for `i` from 0 to `w-1`, in that order;
"a value at or above `2^w` has its excess high bits dropped". -/
def bufWrite {n : Nat} (B : Buf n) (off : Nat) : (w v : Nat) → Buf n
  | 0, _ => B
  | w + 1, v => setBufBit (bufWrite B off w (v / 2)) (off + w) (v.testBit 0)

/-- The big-endian unsigned integer of a byte string: `sum S[i] * 256^(m-1-i)` (R61, R68). -/
def beValue (S : List Byte) : Nat := S.foldl (fun n b => n * 256 + b.toNat) 0

/-- `BufWriteBytes(B, off, w, S)` (R68): the `w` least significant bits of the big-endian integer of `S`, most significant first. -/
def bufWriteBytes {n : Nat} (B : Buf n) (off w : Nat) (S : List Byte) : Buf n := bufWrite B off w (beValue S)

/-- A legal field of the host's bit-field operations on FRAME: `1 <= width <= 64` and `off + width <= 80` (R65, R281). -/
def fieldLegal (off width : Nat) : Bool := decide (1 ≤ width) && decide (width ≤ 64) && decide (off + width ≤ 80)

/-- Nine zero bytes (R29). -/
def zeroB71 : Buf 9 := Vector.replicate 9 0

/-- Ten zero bytes (R30). -/
def zeroFrame : Buf 10 := Vector.replicate 10 0

/-! ## Building a sequence -/

/-- A symbol of the transient list `S`, its duration still an exact integer (R301). -/
structure Draft where
  freq : Rat
  dur : Nat
  on : Bool
  deriving DecidableEq, Repr

/-- `emit(f, d, on)` appends one symbol (R135). -/
def emit (S : List Draft) (f : Rat) (d : Nat) (on : Bool) : List Draft := S ++ [{ freq := f, dur := d, on := on }]

/-- `extend(d)` adds `d` to the duration of the last symbol (R135); it is used only where one exists. -/
def extend (d : Nat) : List Draft → List Draft
  | [] => []
  | [x] => [{ x with dur := x.dur + d }]
  | x :: y :: r => x :: extend d (y :: r)

/-- A duration as SYM stores it in DUR_W = 32 bits. One that exceeds `2^32 - 1` "has no defined result" (R135, U3): the stored value is the
free value given, of which only "Duration must be > 0" (R34) is kept (log entry 5). -/
def storeDur (free : BitVec 32) (d : Nat) : BitVec 32 :=
  if d < 2 ^ 32 then BitVec.ofNat 32 d else if free = 0 then 1 else free

/-- The entry of SYM made from a transient symbol. -/
def storeSymbol (free : BitVec 32) (x : Draft) : TxSymbol := { freq := x.freq, dur := storeDur free x.dur, on := x.on }

/-! ## Completion -/

/-- Successful completion of a sequence encoder (R132). -/
def completeSeq (mode : SeqMode) (base : BitVec 32) (S : List TxSymbol) (s : State) : State :=
  { s with
    status := .ok, result := 0, b71 := zeroB71, seqMode := mode, seqBase := base, seqLen := S.length,
    seqCursor := 0, seqRepeat := false, sym := S }

/-- Successful completion of a field encoder whose value goes to RESULT, and of UNPACK_BITS (R134, R231, R283). -/
def completeField (v : BitVec 64) (s : State) : State := { s with status := .ok, result := v, b71 := zeroB71 }

/-- Successful completion of FE_F71 and FE_T71 (R134, R231). -/
def completeB71 (B : Buf 9) (s : State) : State := { s with status := .ok, result := 0, b71 := B }

/-- Successful completion of a packer, PACK_BITS included (R134, R298). -/
def completePack (F : Buf 10) (s : State) : State := { s with status := .ok, result := 0, b71 := zeroB71, frame := F }

/-- The families whose failure values differ (R37, R325, R330). A sequence encoder knows its mode and its `base` operand. -/
inductive Family where
  | sequence (mode : SeqMode) (base : BitVec 32)
  | field
  | packer
  | noOperation
  deriving DecidableEq, Repr

/-- THE ERROR COMPLETION, the engine's counterpart of trap entry (R330): it writes the code to STATUS, zeroes RESULT and B71, and sets the
result registers of the failing operation's family to their failure values: an empty sequence (R133), a zeroed FRAME (R134), nothing more for
a field encoder or UNPACK_BITS (R134) and for an opcode that names no operation (R324). It saves nothing and transfers control nowhere;
there is no return from it (R331). -/
def errorCompletion (fam : Family) (code : StatusCode) (s : State) : State :=
  let t := { s with status := code, result := 0, b71 := zeroB71 }
  match fam with
  | .sequence mode base =>
    { t with seqMode := mode, seqBase := base, seqLen := 0, seqCursor := 0, seqRepeat := false, sym := [] }
  | .field => t
  | .packer => { t with frame := zeroFrame }
  | .noOperation => t

/-- A command whose opcode names no operation: `STATUS.code <- 4`, `RESULT <- 0`, `B71 <- 0` and nothing else; OPR is not read (R93, R324). -/
def illegalCommand (s : State) : State := errorCompletion .noOperation .illegalCommand s

end Sys2Proof.Machine
end

