-- ==== Sys2Proof/Machine/Operands.lean ====
section
/-! DEFINITION. The operands an opcode reads in OPR (R25, R352), and the legal domain of every operand field (R96, R100 to R112, R322 (a)).
A command with a field outside its domain completes with VALIDATION_ERROR before any other work. A field whose type admits no value outside
its domain (`u8`, `u16`, `s16`, `u32`, `u64`, `rat`, `bit`, `char`, `str(0..255)`) needs no check (R339). -/

namespace Sys2Proof.Machine

/-! ## The operands an opcode reads -/

/-- The operation whose operand record this is: "the shape depends on the opcode" (R25, R99). -/
def OprRecord.instr : OprRecord → Instr
  | .encCw _ => .encCw
  | .encRtty _ => .encRtty
  | .encWspr _ => .encWspr
  | .packBits _ => .packBits
  | .unpackBits _ => .unpackBits
  | .feC28 _ => .feC28
  | .feG15 _ => .feG15
  | .feG25 _ => .feG25
  | .feC58 _ => .feC58
  | .feF71 _ => .feF71
  | .feT71 _ => .feT71
  | .feHash _ => .feHash
  | .feS7 _ => .feS7
  | .feState _ => .feState
  | .feR2 _ => .feR2
  | .feR3 _ => .feR3
  | .feR5 _ => .feR5
  | .feK3 _ => .feK3
  | .feS11 _ => .feS11
  | .ftxFreeText _ => .ftxFreeText
  | .ftxDxped _ => .ftxDxped
  | .ftxFieldDay _ => .ftxFieldDay
  | .ftxTelemetry _ => .ftxTelemetry
  | .ftxStandard _ => .ftxStandard
  | .ftxEuVhf2 _ => .ftxEuVhf2
  | .ftxRttyRu _ => .ftxRttyRu
  | .ftxNonstd _ => .ftxNonstd
  | .ftxEuVhf5 _ => .ftxEuVhf5

/-- OPR holds a record written for the operation (R25, R99). A record belongs to the one opcode it was written for: DESIGN CHOICE (log entry 1),
it does not serve another opcode with the same field list (FE_F71 and FTX_FREE_TEXT, FE_T71 and FTX_TELEMETRY), which reads unknown operands. -/
def Opr.holds (i : Instr) : Opr → Bool
  | .unwritten => false
  | .record r => decide (r.instr = i)

/-! What each opcode reads in OPR (R25, R90): its record where OPR holds it, else operands of which nothing is known (R352, log entry 1). -/

def Opr.encCw : Opr → EncCwOpr
  | .record (.encCw o) => o
  | opr => (Config.unknownOperands opr).encCw

def Opr.encRtty : Opr → EncRttyOpr
  | .record (.encRtty o) => o
  | opr => (Config.unknownOperands opr).encRtty

def Opr.encWspr : Opr → EncWsprOpr
  | .record (.encWspr o) => o
  | opr => (Config.unknownOperands opr).encWspr

def Opr.packBits : Opr → PackBitsOpr
  | .record (.packBits o) => o
  | opr => (Config.unknownOperands opr).packBits

def Opr.unpackBits : Opr → UnpackBitsOpr
  | .record (.unpackBits o) => o
  | opr => (Config.unknownOperands opr).unpackBits

def Opr.feC28 : Opr → FeC28Opr
  | .record (.feC28 o) => o
  | opr => (Config.unknownOperands opr).feC28

def Opr.feG15 : Opr → FeG15Opr
  | .record (.feG15 o) => o
  | opr => (Config.unknownOperands opr).feG15

def Opr.feG25 : Opr → FeG25Opr
  | .record (.feG25 o) => o
  | opr => (Config.unknownOperands opr).feG25

def Opr.feC58 : Opr → FeC58Opr
  | .record (.feC58 o) => o
  | opr => (Config.unknownOperands opr).feC58

def Opr.feF71 : Opr → FeF71Opr
  | .record (.feF71 o) => o
  | opr => (Config.unknownOperands opr).feF71

def Opr.feT71 : Opr → FeT71Opr
  | .record (.feT71 o) => o
  | opr => (Config.unknownOperands opr).feT71

def Opr.feHash : Opr → FeHashOpr
  | .record (.feHash o) => o
  | opr => (Config.unknownOperands opr).feHash

def Opr.feS7 : Opr → FeS7Opr
  | .record (.feS7 o) => o
  | opr => (Config.unknownOperands opr).feS7

def Opr.feState : Opr → FeStateOpr
  | .record (.feState o) => o
  | opr => (Config.unknownOperands opr).feState

def Opr.feR2 : Opr → FeR2Opr
  | .record (.feR2 o) => o
  | opr => (Config.unknownOperands opr).feR2

def Opr.feR3 : Opr → FeR3Opr
  | .record (.feR3 o) => o
  | opr => (Config.unknownOperands opr).feR3

def Opr.feR5 : Opr → FeR5Opr
  | .record (.feR5 o) => o
  | opr => (Config.unknownOperands opr).feR5

def Opr.feK3 : Opr → FeK3Opr
  | .record (.feK3 o) => o
  | opr => (Config.unknownOperands opr).feK3

def Opr.feS11 : Opr → FeS11Opr
  | .record (.feS11 o) => o
  | opr => (Config.unknownOperands opr).feS11

def Opr.ftxFreeText : Opr → FtxFreeTextOpr
  | .record (.ftxFreeText o) => o
  | opr => (Config.unknownOperands opr).ftxFreeText

def Opr.ftxDxped : Opr → FtxDxpedOpr
  | .record (.ftxDxped o) => o
  | opr => (Config.unknownOperands opr).ftxDxped

def Opr.ftxFieldDay : Opr → FtxFieldDayOpr
  | .record (.ftxFieldDay o) => o
  | opr => (Config.unknownOperands opr).ftxFieldDay

def Opr.ftxTelemetry : Opr → FtxTelemetryOpr
  | .record (.ftxTelemetry o) => o
  | opr => (Config.unknownOperands opr).ftxTelemetry

def Opr.ftxStandard : Opr → FtxStandardOpr
  | .record (.ftxStandard o) => o
  | opr => (Config.unknownOperands opr).ftxStandard

def Opr.ftxEuVhf2 : Opr → FtxEuVhf2Opr
  | .record (.ftxEuVhf2 o) => o
  | opr => (Config.unknownOperands opr).ftxEuVhf2

def Opr.ftxRttyRu : Opr → FtxRttyRuOpr
  | .record (.ftxRttyRu o) => o
  | opr => (Config.unknownOperands opr).ftxRttyRu

def Opr.ftxNonstd : Opr → FtxNonstdOpr
  | .record (.ftxNonstd o) => o
  | opr => (Config.unknownOperands opr).ftxNonstd

def Opr.ftxEuVhf5 : Opr → FtxEuVhf5Opr
  | .record (.ftxEuVhf5 o) => o
  | opr => (Config.unknownOperands opr).ftxEuVhf5

/-- What an operation reads in OPR, as a record of its shape (R25). -/
def Opr.recordFor (opr : Opr) : Instr → OprRecord
  | .encCw => .encCw opr.encCw
  | .encRtty => .encRtty opr.encRtty
  | .encWspr => .encWspr opr.encWspr
  | .packBits => .packBits opr.packBits
  | .unpackBits => .unpackBits opr.unpackBits
  | .feC28 => .feC28 opr.feC28
  | .feG15 => .feG15 opr.feG15
  | .feG25 => .feG25 opr.feG25
  | .feC58 => .feC58 opr.feC58
  | .feF71 => .feF71 opr.feF71
  | .feT71 => .feT71 opr.feT71
  | .feHash => .feHash opr.feHash
  | .feS7 => .feS7 opr.feS7
  | .feState => .feState opr.feState
  | .feR2 => .feR2 opr.feR2
  | .feR3 => .feR3 opr.feR3
  | .feR5 => .feR5 opr.feR5
  | .feK3 => .feK3 opr.feK3
  | .feS11 => .feS11 opr.feS11
  | .ftxFreeText => .ftxFreeText opr.ftxFreeText
  | .ftxDxped => .ftxDxped opr.ftxDxped
  | .ftxFieldDay => .ftxFieldDay opr.ftxFieldDay
  | .ftxTelemetry => .ftxTelemetry opr.ftxTelemetry
  | .ftxStandard => .ftxStandard opr.ftxStandard
  | .ftxEuVhf2 => .ftxEuVhf2 opr.ftxEuVhf2
  | .ftxRttyRu => .ftxRttyRu opr.ftxRttyRu
  | .ftxNonstd => .ftxNonstd opr.ftxNonstd
  | .ftxEuVhf5 => .ftxEuVhf5 opr.ftxEuVhf5

/-- A record of the operation's shape with every number 0, every bit 0, every string empty and every union at tag 0. No rule gives it; it is
what `State.withFetchWord` puts in the place of a record the host would have written (log entry 4). -/
def blankRecord : Instr → OprRecord
  | .encCw => .encCw { text := [], wpm := 0, base := 0 }
  | .encRtty => .encRtty { text := [], baudRate := 0, shiftHz := 0, stopBits := 0, reverseShift := false, centerOnCarrier := false, base := 0 }
  | .encWspr => .encWspr { callsign := { }, grid := { }, powerDbm := 0, base := 0 }
  | .packBits => .packBits { off := 0, width := 0, value := 0 }
  | .unpackBits => .unpackBits { off := 0, width := 0 }
  | .feC28 => .feC28 { cell := .std [] }
  | .feG15 => .feG15 { cell := .grid { } }
  | .feG25 => .feG25 { grid6 := { } }
  | .feC58 => .feC58 { call := [] }
  | .feF71 => .feF71 { text := [] }
  | .feT71 => .feT71 { hex := [] }
  | .feHash => .feHash { call := [], width := 0 }
  | .feS7 => .feS7 { sec := { } }
  | .feState => .feState { state := { } }
  | .feR2 => .feR2 { word := .blank }
  | .feR3 => .feR3 { rst := 0 }
  | .feR5 => .feR5 { report := 0 }
  | .feK3 => .feK3 { cls := 0 }
  | .feS11 => .feS11 { serial := 0 }
  | .ftxFreeText => .ftxFreeText { text := [] }
  | .ftxDxped => .ftxDxped { callA := .std [], callB := .std [], dxCall := [], report := 0 }
  | .ftxFieldDay => .ftxFieldDay { callTo := .std [], callDe := .std [], r := false, ntx := 0, cls := 0, sec := { } }
  | .ftxTelemetry => .ftxTelemetry { hex := [] }
  | .ftxStandard => .ftxStandard { callTo := .std [], roverTo := false, callDe := .std [], roverDe := false, r := false, g15 := .grid { } }
  | .ftxEuVhf2 => .ftxEuVhf2 { callTo := .std [], pTo := false, callDe := .std [], pDe := false, r := false, g15 := .grid { } }
  | .ftxRttyRu => .ftxRttyRu { tu := false, callTo := .std [], callDe := .std [], r := false, rst := 0, s13 := .serial 0 }
  | .ftxNonstd => .ftxNonstd { hashCall := [], fullCall := [], h1 := false, word := .blank, cq := false }
  | .ftxEuVhf5 => .ftxEuVhf5 { callTo := [], callDe := [], r := false, rst := 0, serial := 0, grid6 := { } }

/-! ## Domains -/

/-- A string of length `lo` to `hi`. -/
def lenIn (lo hi : Nat) (t : Text) : Bool := decide (lo ≤ t.length) && decide (t.length ≤ hi)

/-- Domain of a `CQ_MOD` modifier: `NUM` 0 to 999 (R235), `LET` 1 to 4 upper-case letters (R236), no other sub-tag (R242). -/
def cqModOk : CqMod → Bool
  | .num v => decide (v.toNat ≤ 999)
  | .lets s => lenIn 1 4 s && s.all isUpper
  | .other _ => false

/-- Domain of a `CallCell` (R105, R242): token of 1 to 6 bytes, a modifier in its domain, a hash value below `2^22`, no other tag. -/
def callCellOk : CallCell → Bool
  | .std token => lenIn 1 6 token
  | .cq => true
  | .cqMod m => cqModOk m
  | .de => true
  | .qrz => true
  | .hash22 h => decide (h.toNat < 2 ^ 22)
  | .other _ => false

/-- Domain of a `G15Cell`: every known tag (R106, R245). -/
def g15CellOk : G15Cell → Bool
  | .grid _ => true
  | .report _ => true
  | .blank => true
  | .rrr => true
  | .rr73 => true
  | .s73 => true
  | .other _ => false

/-- Domain of an `S13Cell`: every known tag (R107). -/
def s13CellOk : S13Cell → Bool
  | .serial _ => true
  | .state _ => true
  | .other _ => false

/-- Domain of an `R2Word`: 0 to 3 (R108, R266). -/
def r2WordOk : R2Word → Bool
  | .blank => true
  | .rrr => true
  | .rr73 => true
  | .s73 => true
  | .other _ => false

/-- ENC_CW and ENC_RTTY: "the text operand holds at most TEXT_MAX bytes" (R25, R100, R101). -/
def textOk (cfg : Config) (t : Text) : Bool := lenIn 0 cfg.textMax t

/-- `str(0..11)`, a callsign for c58 or the hash (R110 to R112). -/
def call11Ok (t : Text) : Bool := lenIn 0 11 t

/-- `str(0..13)`, a free text (R110, R111, R252). -/
def text13Ok (t : Text) : Bool := lenIn 0 13 t

/-- `str(0..18)`, a hexadecimal string (R110, R111, R255). -/
def hex18Ok (t : Text) : Bool := lenIn 0 18 t

/-- A hash width: "10/12/22 bits only, other widths are rejected" (R257, R259). -/
def hashWidthOk (m : Nat) : Bool := m == 10 || m == 12 || m == 22

/-- `FTX_DXPED` (R111). -/
def ftxDxpedOk (o : FtxDxpedOpr) : Bool := callCellOk o.callA && callCellOk o.callB && call11Ok o.dxCall

/-- `FTX_FIELD_DAY`: `ntx` 1 to 32 (R111, R291). -/
def ftxFieldDayOk (o : FtxFieldDayOpr) : Bool :=
  callCellOk o.callTo && callCellOk o.callDe && decide (1 ≤ o.ntx.toNat) && decide (o.ntx.toNat ≤ 32)

/-- `FTX_STANDARD` (R112). -/
def ftxStandardOk (o : FtxStandardOpr) : Bool := callCellOk o.callTo && callCellOk o.callDe && g15CellOk o.g15

/-- `FTX_EU_VHF_2` (R112). -/
def ftxEuVhf2Ok (o : FtxEuVhf2Opr) : Bool := callCellOk o.callTo && callCellOk o.callDe && g15CellOk o.g15

/-- `FTX_RTTY_RU` (R112). -/
def ftxRttyRuOk (o : FtxRttyRuOpr) : Bool := callCellOk o.callTo && callCellOk o.callDe && s13CellOk o.s13

/-- `FTX_NONSTD` (R112). -/
def ftxNonstdOk (o : FtxNonstdOpr) : Bool := call11Ok o.hashCall && call11Ok o.fullCall && r2WordOk o.word

/-- `FTX_EU_VHF_5` (R112). -/
def ftxEuVhf5Ok (o : FtxEuVhf5Opr) : Bool := call11Ok o.callTo && call11Ok o.callDe

end Sys2Proof.Machine
end

