-- ==== Sys2Proof/Machine/BitField.lean ====
section
/-! DEFINITION. The bit-field operations on FRAME, `PACK_BITS` and `UNPACK_BITS` (R280 to R284). -/

namespace Sys2Proof.Machine

/-- `PACK_BITS` (R282). An illegal field zeroes the whole frame. -/
def execPackBits (s : State) : Host.Outcome State Fault Refusal :=
  let o := s.opr.packBits
  if !fieldLegal o.off.toNat o.width.toNat then .next (errorCompletion .packer .validationError s)
  else .next (completePack (bufWrite s.frame o.off.toNat o.width.toNat o.value.toNat) s)

/-- `UNPACK_BITS` (R283). FRAME is unchanged in both cases. -/
def execUnpackBits (s : State) : Host.Outcome State Fault Refusal :=
  let o := s.opr.unpackBits
  if !fieldLegal o.off.toNat o.width.toNat then .next (errorCompletion .field .validationError s)
  else .next (completeField (BitVec.ofNat 64 (bufRead s.frame o.off.toNat o.width.toNat)) s)

end Sys2Proof.Machine
end

