-- ==== Sys2Proof/Machine/Cw.lean ====
section
/-! DEFINITION. The CW encoder, `ENC_CW` (R140 to R152). -/

namespace Sys2Proof.Machine

/-- Index of an encodable character in MORSE: `A` to `Z` 0 to 25, `0` to `9` 26 to 35; `none` for every other character (R141, R146). -/
def morseIndex (c : Byte) : Option Nat :=
  if isUpper c then some (letterVal c) else if isDigit c then some (26 + digitVal c) else none

/-- `MORSE[c]` of an encodable character `c` (R141, R146). -/
def morseCode (cfg : Config) (c : Byte) : Option (List MorseElem) :=
  match morseIndex c with
  | some k => cfg.morse[k]?
  | none => none

/-- `dot = 1_200_000 div wpm`; 0 where `wpm = 0` (R144). -/
def cwDot (wpm : Nat) : Nat := 1200000 / wpm

/-- The needed capacity: the sum over encodable characters of `2 * length(MORSE[c])` (R145). -/
def cwNeeded (cfg : Config) (text : Text) : Nat :=
  (text.map fun b =>
    match morseCode cfg (upper b) with
    | some code => 2 * code.length
    | none => 0).sum

/-- The symbols of one character: for each element a carrier-on symbol of dot or dash duration, then a carrier-off symbol of one dot (R143). -/
def cwElements (dot : Nat) (code : List MorseElem) (S : List Draft) : List Draft :=
  code.foldl (fun S e => emit (emit S 0 (if e = .dot then dot else 3 * dot) true) 0 dot false) S

/-- The working values of the loop of R143: the transient symbol list and `last_was_char` (R38). -/
structure CwWork where
  syms : List Draft
  lastWasChar : Bool
  deriving DecidableEq, Repr

/-- One iteration of the loop of R143, on the text byte `b`. -/
def cwChar (cfg : Config) (dot : Nat) (w : CwWork) (b : Byte) : CwWork :=
  if upper b = space then
    { syms := if w.syms = [] then [] else extend (6 * dot) w.syms, lastWasChar := false }
  else
    match morseCode cfg (upper b) with
    | some code =>
      { syms := cwElements dot code (if w.lastWasChar then extend (2 * dot) w.syms else w.syms), lastWasChar := true }
    | none => w

/-- The symbol list `S` of a text (R143). -/
def cwSymbols (cfg : Config) (dot : Nat) (text : Text) : List Draft :=
  (text.foldl (cwChar cfg dot) { syms := [], lastWasChar := false }).syms

/-- The entries of SYM: the symbols with their durations stored in DUR_W bits (R33, R135). -/
def cwStore (cfg : Config) (o : EncCwOpr) (S : List Draft) : List TxSymbol :=
  S.mapIdx fun i x => storeSymbol (Config.cwDurOverflow cfg o.text o.wpm o.base i) x

/-- The cause of R142: `wpm = 0`, or `wpm > 1_200_000`, for which the dot would last 0 microseconds. -/
def cwRejected (wpm : Nat) : Bool := decide (wpm = 0) || decide (cwDot wpm = 0)

/-- `ENC_CW` (R143): the operand domain (R96), rejection (R142), capacity (R145), then the sequence. -/
def execEncCw (s : State) : Host.Outcome State Fault Refusal :=
  let o := s.opr.encCw
  let wpm := o.wpm.toNat
  if !textOk s.cfg o.text || cwRejected wpm then
    .next (errorCompletion (.sequence .cw o.base) .validationError s)
  else if s.cfg.symCap < cwNeeded s.cfg o.text then
    .next (errorCompletion (.sequence .cw o.base) .allocationError s)
  else
    .next (completeSeq .cw o.base (cwStore s.cfg o (cwSymbols s.cfg (cwDot wpm) o.text)) s)

end Sys2Proof.Machine
end

