-- ==== Sys2Proof/Machine/Fields.lean ====
section
/-! DEFINITION. The field functions of the FTx messages (R232 to R270), used by the FE operations and by the packers alike (R230). -/

namespace Sys2Proof.Machine

/-! ## c28 (R234 to R241) -/

/-- `base27(s)`: `s` right-aligned in four cells over `A27` (R236). -/
def base27 (s : Text) : Nat := mixedUniform 27 ((padLeft 4 s).map fun c => (idx a27 c).getD 0)

/-- The largest index in `0 .. min(L, 3) - 1` that holds a digit (R239). -/
def stdDigitPos (t : Text) : Option Nat :=
  ((List.range (min t.length 3)).reverse).find? fun p => isDigit (t.getD p 0)

/-- `shift` of R239: it brings that digit to cell 2; 0 where there is none. -/
def stdShift (t : Text) : Nat :=
  match stdDigitPos t with
  | some p => 2 - p
  | none => 0

/-- The canonical form `c6` of a standard callsign: shifted right, cut to 6 characters, padded on the right (R239). -/
def stdCanonical (t : Text) : Text := padRight 6 ((List.replicate (stdShift t) space ++ t).take 6)

/-- A cell value, 0 for a character that is not in the cell's alphabet: "unmapped characters contribute 0" (R238). -/
def cellOrZero (A : Text) (c : Byte) : Nat := (idx A c).getD 0

/-- `n` of R240 for a canonical form. -/
def stdValue (radix1 : Nat) (c6 : Text) : Nat :=
  match c6 with
  | [c0, c1, c2, c3, c4, c5] =>
    mixed [(cellOrZero a37 c0, 37), (cellOrZero a36 c1, radix1), (cellOrZero a10 c2, 10), (cellOrZero a27 c3, 27),
      (cellOrZero a27 c4, 27), (cellOrZero a27 c5, 27)]
  | _ => 0

/-- `c28(cell)` (R234) for a cell in its domain. An unknown tag never reaches it: the domain check comes first (R96, R242). -/
def c28 (cfg : Config) : CallCell → Nat
  | .de => 0
  | .qrz => 1
  | .cq => 2
  | .cqMod (.num v) => 3 + v.toNat
  | .cqMod (.lets t) => 1003 + base27 t
  | .cqMod (.other _) => 0
  | .hash22 h => 2063592 + h.toNat
  | .std token => 6257896 + stdValue cfg.c28Radix1 (stdCanonical token)
  | .other _ => 0

/-! ## g15 and g25 (R243 to R246) -/

/-- The value of a 4-character grid; 0 for an invalid one (R243). -/
def g15Grid (g : Text) : Nat :=
  match g with
  | [c0, c1, c2, c3] =>
    if upperUpTo 0x52 c0 && upperUpTo 0x52 c1 && isDigit c2 && isDigit c3 then
      letterVal c0 * 1800 + letterVal c1 * 100 + digitVal c2 * 10 + digitVal c3
    else 0
  | _ => 0

/-- `g15(cell)`, masked to 15 bits with the non-negative remainder (R243, R244, R303). -/
def g15 : G15Cell → Nat
  | .grid g => g15Grid g.val % 2 ^ 15
  | .report r => ((32400 + r.toInt + 35) % 2 ^ 15).toNat
  | .blank => 32401
  | .rrr => 32402
  | .rr73 => 32403
  | .s73 => 32404
  | .other _ => 0

/-- `g25(g)`; 0 for an invalid grid (R246). -/
def g25 (g : Text) : Nat :=
  match g with
  | [c0, c1, c2, c3, c4, c5] =>
    if upperUpTo 0x52 c0 && upperUpTo 0x52 c1 && isDigit c2 && isDigit c3 && upperUpTo 0x58 c4 && upperUpTo 0x58 c5 then
      mixed [(letterVal c0, 18), (letterVal c1, 18), (digitVal c2, 10), (digitVal c3, 10), (letterVal c4, 24), (letterVal c5, 24)]
    else 0
  | _ => 0

/-! ## c58, f71, t71 and the hash (R248 to R258) -/

/-- `c58(call)`: case folded, padded right to 11 cells, base 38 over `A38`; `none` when a character has no cell value (R248). -/
def c58 (call : Text) : Option Nat :=
  match cellsWith (idx a38) (padRight 11 (upperText call)) with
  | some cells => some (mixedUniform 38 cells)
  | none => none

/-- One multiply-and-add of R251 over the nine bytes: for `k` from 8 down to 0, `x <- B[k] * r + carry`, `B[k] <- x mod 256`,
`carry <- x div 256`. The last carry leaves the buffer. -/
def mulAddStep (r : Nat) (w : Buf 9 × Nat) (k : Nat) : Buf 9 × Nat :=
  let x := (w.1[k]?.getD 0).toNat * r + w.2
  (w.1.setIfInBounds k (BitVec.ofNat 8 x), x / 256)

/-- The inner loop of R251 with the initial carry `v`. -/
def mulAdd (r : Nat) (B : Buf 9) (v : Nat) : Buf 9 := ([8, 7, 6, 5, 4, 3, 2, 1, 0].foldl (mulAddStep r) (B, v)).1

/-- `f71(text)` with the radix `r` (R251): one multiply-and-add per character, no padding, no folding; `none` when a character has no value. -/
def f71 (r : Nat) (text : Text) : Option (Buf 9) :=
  match cellsWith (idx a43) text with
  | some cells => some (cells.foldl (mulAdd r) zeroB71)
  | none => none

/-- The value of a hexadecimal digit of either case (R254). -/
def hexVal (c : Byte) : Option Nat :=
  if isDigit c then some (digitVal c)
  else if decide (0x41 ≤ c.toNat) && decide (c.toNat ≤ 0x46) then some (c.toNat - 0x41 + 10)
  else if decide (0x61 ≤ c.toNat) && decide (c.toNat ≤ 0x66) then some (c.toNat - 0x61 + 10)
  else none

/-- `h[0] <- min(h[0], 7)` when all 18 nibbles are used (R254). -/
def clampLeading (h : List Nat) : List Nat :=
  if h.length = 18 then
    match h with
    | d :: rest => min d 7 :: rest
    | [] => []
  else h

/-- The loop of R254: nibble `h[i]` is written at buffer bit `72 - 4 * (L - i)`. -/
def writeNibbles : List Nat → Buf 9 → Buf 9
  | [], B => B
  | d :: rest, B => writeNibbles rest (bufWrite B (72 - 4 * (rest.length + 1)) 4 d)

/-- `t71(hex)` (R254); `none` when a character is no hexadecimal digit. -/
def t71 (hex : Text) : Option (Buf 9) :=
  match cellsWith hexVal hex with
  | some h => some (writeNibbles (clampLeading h) zeroB71)
  | none => none

/-- `hash(call, m) = ((n58 * 47055833459) mod 2^64) >> (64 - m)` (R257, R258). -/
def callHash (call : Text) (m : Nat) : Option Nat :=
  match c58 call with
  | some n => some ((n * 47055833459 % 2 ^ 64) >>> (64 - m))
  | none => none

/-! ## Section and state lookups (R260 to R265) -/

/-- Case-folded exact match in a table: the 0-based index (R261, R264). -/
def tableIndex (table : List Text) (t : Text) : Option Nat := table.idxOf? (upperText t)

/-- `S7(section)`: the index, or -1 (R261). -/
def s7 (cfg : Config) (t : Text) : Int :=
  match tableIndex cfg.arrlSections.toList t with
  | some k => (k : Int)
  | none => -1

/-- `state(a)`: `S13_STATE_OFFSET + k`, or 0 (R264). -/
def stateVal (cfg : Config) (t : Text) : Nat :=
  match tableIndex cfg.rttyStates.toList t with
  | some k => cfg.s13StateOffset + k
  | none => 0

/-- `s13(cell)` for a cell in its domain (R265). -/
def s13 (cfg : Config) : S13Cell → Nat
  | .serial n => n.toNat % 2 ^ 13
  | .state a => stateVal cfg a.val
  | .other _ => 0

/-! ## The small encoders (R266 to R270) -/

/-- `r2(word)` for a word in its domain (R266). -/
def r2 : R2Word → Nat
  | .blank => 0
  | .rrr => 1
  | .rr73 => 2
  | .s73 => 3
  | .other _ => 0

/-- `r3(rst)` (R267). -/
def r3 (rst : Nat) : Nat := if 2 ≤ rst ∧ rst ≤ 9 then rst - 2 else 0

/-- `r5(report)`: clamped to -30 .. 32, then `(c + 30) div 2` (R268). -/
def r5 (report : Int) : Nat := ((max (-30) (min 32 report) + 30) / 2).toNat

/-- `k3(class)`: `A` to `F` give 0 to 5, everything else 0 (R269). -/
def k3 (c : Byte) : Nat := if upperUpTo 0x46 c then letterVal c else 0

/-- `s11(serial) = serial mod 2048` (R270). -/
def s11 (serial : Nat) : Nat := serial % 2048

end Sys2Proof.Machine
end

