-- ==== Sys2Proof/Machine/FieldEnc.lean ====
section
/-! DEFINITION. The fourteen FTx field encoders as operations (R230, R231, R242 to R272). -/

namespace Sys2Proof.Machine

/-- VALIDATION_ERROR of a field encoder (R134, R231). -/
def failField (s : State) : State := errorCompletion .field .validationError s

/-- `FE_C28` (R242). -/
def execFeC28 (s : State) : Host.Outcome State Fault Refusal :=
  let o := s.opr.feC28
  if !callCellOk o.cell then .next (failField s)
  else .next (completeField (BitVec.ofNat 64 (c28 s.cfg o.cell)) s)

/-- `FE_G15` (R245). -/
def execFeG15 (s : State) : Host.Outcome State Fault Refusal :=
  let o := s.opr.feG15
  if !g15CellOk o.cell then .next (failField s)
  else .next (completeField (BitVec.ofNat 64 (g15 o.cell)) s)

/-- `FE_G25` (R247). -/
def execFeG25 (s : State) : Host.Outcome State Fault Refusal :=
  let o := s.opr.feG25
  .next (completeField (BitVec.ofNat 64 (g25 o.grid6.val)) s)

/-- `FE_C58` (R249). -/
def execFeC58 (s : State) : Host.Outcome State Fault Refusal :=
  let o := s.opr.feC58
  if !call11Ok o.call then .next (failField s)
  else
    match c58 o.call with
    | some n => .next (completeField (BitVec.ofNat 64 n) s)
    | none => .refused .charOutsideAlphabet

/-- `FE_F71` (R252). -/
def execFeF71 (s : State) : Host.Outcome State Fault Refusal :=
  let o := s.opr.feF71
  if !text13Ok o.text then .next (failField s)
  else
    match f71 s.cfg.f71Radix o.text with
    | some B => .next (completeB71 B s)
    | none => .refused .charOutsideAlphabet

/-- `FE_T71` (R255). -/
def execFeT71 (s : State) : Host.Outcome State Fault Refusal :=
  let o := s.opr.feT71
  if !hex18Ok o.hex then .next (failField s)
  else
    match t71 o.hex with
    | some B => .next (completeB71 B s)
    | none => .refused .charOutsideAlphabet

/-- `FE_HASH` (R259). -/
def execFeHash (s : State) : Host.Outcome State Fault Refusal :=
  let o := s.opr.feHash
  if !hashWidthOk o.width.toNat || !call11Ok o.call then .next (failField s)
  else
    match callHash o.call o.width.toNat with
    | some h => .next (completeField (BitVec.ofNat 64 h) s)
    | none => .refused .charOutsideAlphabet

/-- `FE_S7`: a failed lookup is no error, its result is -1 (R262). -/
def execFeS7 (s : State) : Host.Outcome State Fault Refusal :=
  let o := s.opr.feS7
  .next (completeField (BitVec.ofInt 64 (s7 s.cfg o.sec.val)) s)

/-- `FE_STATE` (R264). -/
def execFeState (s : State) : Host.Outcome State Fault Refusal :=
  let o := s.opr.feState
  .next (completeField (BitVec.ofNat 64 (stateVal s.cfg o.state.val)) s)

/-- `FE_R2` (R266). -/
def execFeR2 (s : State) : Host.Outcome State Fault Refusal :=
  let o := s.opr.feR2
  if !r2WordOk o.word then .next (failField s)
  else .next (completeField (BitVec.ofNat 64 (r2 o.word)) s)

/-- `FE_R3` (R267). -/
def execFeR3 (s : State) : Host.Outcome State Fault Refusal :=
  let o := s.opr.feR3
  .next (completeField (BitVec.ofNat 64 (r3 o.rst.toNat)) s)

/-- `FE_R5` (R268). -/
def execFeR5 (s : State) : Host.Outcome State Fault Refusal :=
  let o := s.opr.feR5
  .next (completeField (BitVec.ofNat 64 (r5 o.report.toInt)) s)

/-- `FE_K3` (R269). -/
def execFeK3 (s : State) : Host.Outcome State Fault Refusal :=
  let o := s.opr.feK3
  .next (completeField (BitVec.ofNat 64 (k3 o.cls)) s)

/-- `FE_S11` (R270). -/
def execFeS11 (s : State) : Host.Outcome State Fault Refusal :=
  let o := s.opr.feS11
  .next (completeField (BitVec.ofNat 64 (s11 o.serial.toNat)) s)

end Sys2Proof.Machine
end

