-- ==== Sys2Proof/Machine/Packer.lean ====
section
/-! DEFINITION. The nine FTx payload packers (R285 to R300): each checks the domain of its record (R96), computes its field values, and
commits a frame built on ten zero bytes (R287, R298). Field positions come from FTX_LAYOUT (R300), but for the Standard row, which is the
source's (R293); the discriminators are written last (R288). -/

namespace Sys2Proof.Machine

/-- VALIDATION_ERROR of a packer: FRAME becomes ten zero bytes (R134, R298). -/
def failPack (s : State) : State := errorCompletion .packer .validationError s

/-- The discriminator `i3` at buffer bits 74 to 76 (R114, R288). -/
def putI3 (F : Buf 10) (i3 : Nat) : Buf 10 := bufWrite F 74 3 i3

/-- The discriminators of the `i3 = 0` family: `n3` at 71 to 73, then `i3 = 0` (R114, R115, R288). -/
def putN3 (F : Buf 10) (n3 : Nat) : Buf 10 := putI3 (bufWrite F 71 3 n3) 0

/-- The frame of `FTX_FREE_TEXT` (R289). -/
def freeTextFrame (L : FreeTextLayout) (B : Buf 9) : Buf 10 := putN3 (bufWriteBytes zeroFrame L.f71 71 B.toList) L.n3

/-- `FTX_FREE_TEXT` (R289). -/
def execFtxFreeText (s : State) : Host.Outcome State Fault Refusal :=
  let o := s.opr.ftxFreeText
  if !text13Ok o.text then .next (failPack s)
  else
    match f71 s.cfg.f71Radix o.text with
    | some B => .next (completePack (freeTextFrame s.cfg.ftxLayout.freeText B) s)
    | none => .refused .charOutsideAlphabet

/-- The frame of `FTX_DXPED` with the field values `c28(call_a)`, `c28(call_b)`, `h10`, `r5` (R290). -/
def dxpedFrame (L : DxpedLayout) (ca cb h v5 : Nat) : Buf 10 :=
  putN3 (bufWrite (bufWrite (bufWrite (bufWrite zeroFrame L.c28a 28 ca) L.c28b 28 cb) L.h10 10 h) L.r5 5 v5) L.n3

/-- `FTX_DXPED` (R290). -/
def execFtxDxped (s : State) : Host.Outcome State Fault Refusal :=
  let o := s.opr.ftxDxped
  if !ftxDxpedOk o then .next (failPack s)
  else
    match callHash o.dxCall 10 with
    | some h =>
      .next (completePack (dxpedFrame s.cfg.ftxLayout.dxped (c28 s.cfg o.callA) (c28 s.cfg o.callB) h (r5 o.report.toInt)) s)
    | none => .refused .charOutsideAlphabet

/-- `n4` of R291: `ntx - 1` up to 16, `ntx - 17` from 17. -/
def fieldDayN4 (ntx : Nat) : Nat := if ntx ≤ 16 then ntx - 1 else ntx - 17

/-- `n3` of R291. -/
def fieldDayN3 (L : FieldDayLayout) (ntx : Nat) : Nat := if ntx ≤ 16 then L.n3Low else L.n3High

/-- The frame of `FTX_FIELD_DAY` (R291). -/
def fieldDayFrame (L : FieldDayLayout) (cTo cDe : Nat) (r : Bool) (ntx v3 v7 : Nat) : Buf 10 :=
  putN3 (bufWrite (bufWrite (bufWrite (bufWrite (bufWrite (bufWrite zeroFrame L.c28To 28 cTo) L.c28De 28 cDe) L.r1 1 r.toNat)
    L.n4 4 (fieldDayN4 ntx)) L.k3 3 v3) L.s7 7 v7) (fieldDayN3 L ntx)

/-- `FTX_FIELD_DAY` (R291): a section that is not in the table fails the packer (R298). -/
def execFtxFieldDay (s : State) : Host.Outcome State Fault Refusal :=
  let o := s.opr.ftxFieldDay
  if !ftxFieldDayOk o || decide (s7 s.cfg o.sec.val = -1) then .next (failPack s)
  else
    .next (completePack (fieldDayFrame s.cfg.ftxLayout.fieldDay (c28 s.cfg o.callTo) (c28 s.cfg o.callDe) o.r o.ntx.toNat (k3 o.cls)
      (s7 s.cfg o.sec.val + s.cfg.s7FrameBias).toNat) s)

/-- The frame of `FTX_TELEMETRY` (R292). -/
def telemetryFrame (L : TelemetryLayout) (B : Buf 9) : Buf 10 := putN3 (bufWriteBytes zeroFrame L.t71 71 B.toList) L.n3

/-- `FTX_TELEMETRY` (R292). -/
def execFtxTelemetry (s : State) : Host.Outcome State Fault Refusal :=
  let o := s.opr.ftxTelemetry
  if !hex18Ok o.hex then .next (failPack s)
  else
    match t71 o.hex with
    | some B => .next (completePack (telemetryFrame s.cfg.ftxLayout.telemetry B) s)
    | none => .refused .charOutsideAlphabet

/-- The frame of `FTX_STANDARD`, "c28(28)+rover-flag(1)+c28(28)+rover-flag(1)+R1-flag(1)+g15(15)" and `i3 = 1` (R293). -/
def standardFrame (cTo : Nat) (roverTo : Bool) (cDe : Nat) (roverDe r : Bool) (g : Nat) : Buf 10 :=
  putI3 (bufWrite (bufWrite (bufWrite (bufWrite (bufWrite (bufWrite zeroFrame 0 28 cTo) 28 1 roverTo.toNat) 29 28 cDe)
    57 1 roverDe.toNat) 58 1 r.toNat) 59 15 g) 1

/-- `FTX_STANDARD` (R293). -/
def execFtxStandard (s : State) : Host.Outcome State Fault Refusal :=
  let o := s.opr.ftxStandard
  if !ftxStandardOk o then .next (failPack s)
  else .next (completePack (standardFrame (c28 s.cfg o.callTo) o.roverTo (c28 s.cfg o.callDe) o.roverDe o.r (g15 o.g15)) s)

/-- The frame of `FTX_EU_VHF_2` (R294). -/
def euVhf2Frame (L : EuVhf2Layout) (cTo : Nat) (pTo : Bool) (cDe : Nat) (pDe r : Bool) (g : Nat) : Buf 10 :=
  putI3 (bufWrite (bufWrite (bufWrite (bufWrite (bufWrite (bufWrite zeroFrame L.c28To 28 cTo) L.pTo 1 pTo.toNat) L.c28De 28 cDe)
    L.pDe 1 pDe.toNat) L.r1 1 r.toNat) L.g15 15 g) L.i3

/-- `FTX_EU_VHF_2` (R294). -/
def execFtxEuVhf2 (s : State) : Host.Outcome State Fault Refusal :=
  let o := s.opr.ftxEuVhf2
  if !ftxEuVhf2Ok o then .next (failPack s)
  else
    .next (completePack (euVhf2Frame s.cfg.ftxLayout.euVhf2 (c28 s.cfg o.callTo) o.pTo (c28 s.cfg o.callDe) o.pDe o.r (g15 o.g15)) s)

/-- The frame of `FTX_RTTY_RU` (R295). -/
def rttyRuFrame (L : RttyRuLayout) (tu : Bool) (cTo cDe : Nat) (r : Bool) (v3 v13 : Nat) : Buf 10 :=
  putI3 (bufWrite (bufWrite (bufWrite (bufWrite (bufWrite (bufWrite zeroFrame L.tu 1 tu.toNat) L.c28To 28 cTo) L.c28De 28 cDe)
    L.r1 1 r.toNat) L.r3 3 v3) L.s13 13 v13) L.i3

/-- `FTX_RTTY_RU` (R295): an unknown state is written as 0 without an error. -/
def execFtxRttyRu (s : State) : Host.Outcome State Fault Refusal :=
  let o := s.opr.ftxRttyRu
  if !ftxRttyRuOk o then .next (failPack s)
  else
    .next (completePack (rttyRuFrame s.cfg.ftxLayout.rttyRu o.tu (c28 s.cfg o.callTo) (c28 s.cfg o.callDe) o.r (r3 o.rst.toNat)
      (s13 s.cfg o.s13)) s)

/-- The frame of `FTX_NONSTD` (R296). -/
def nonstdFrame (L : NonstdLayout) (h n58 : Nat) (h1 : Bool) (v2 : Nat) (cq : Bool) : Buf 10 :=
  putI3 (bufWrite (bufWrite (bufWrite (bufWrite (bufWrite zeroFrame L.h12 12 h) L.c58 58 n58) L.h1 1 h1.toNat) L.r2 2 v2)
    L.cq 1 cq.toNat) L.i3

/-- `FTX_NONSTD` (R296). -/
def execFtxNonstd (s : State) : Host.Outcome State Fault Refusal :=
  let o := s.opr.ftxNonstd
  if !ftxNonstdOk o then .next (failPack s)
  else
    match callHash o.hashCall 12, c58 o.fullCall with
    | some h, some n => .next (completePack (nonstdFrame s.cfg.ftxLayout.nonstd h n o.h1 (r2 o.word) o.cq) s)
    | _, _ => .refused .charOutsideAlphabet

/-- The frame of `FTX_EU_VHF_5` (R297). -/
def euVhf5Frame (L : EuVhf5Layout) (h12 h22 : Nat) (r : Bool) (v3 v11 v25 : Nat) : Buf 10 :=
  putI3 (bufWrite (bufWrite (bufWrite (bufWrite (bufWrite (bufWrite zeroFrame L.h12 12 h12) L.h22 22 h22) L.r1 1 r.toNat) L.r3 3 v3)
    L.s11 11 v11) L.g25 25 v25) L.i3

/-- `FTX_EU_VHF_5` (R297). -/
def execFtxEuVhf5 (s : State) : Host.Outcome State Fault Refusal :=
  let o := s.opr.ftxEuVhf5
  if !ftxEuVhf5Ok o then .next (failPack s)
  else
    match callHash o.callTo 12, callHash o.callDe 22 with
    | some h12, some h22 =>
      .next (completePack (euVhf5Frame s.cfg.ftxLayout.euVhf5 h12 h22 o.r (r3 o.rst.toNat) (s11 o.serial.toNat) (g25 o.grid6.val)) s)
    | _, _ => .refused .charOutsideAlphabet

end Sys2Proof.Machine
end

