-- ==== Sys2Proof/Machine/Rtty.lean ====
section
/-! DEFINITION. The RTTY encoder, `ENC_RTTY` (R160 to R176). -/

namespace Sys2Proof.Machine

/-- The two shift states (R161, R171). -/
inductive Shift where
  | letters
  | figures
  deriving DecidableEq, Repr

/-- The shift-control codes: `0x1F` for LETTERS, `0x1B` for FIGURES (R171). -/
def shiftCode : Shift → BitVec 5
  | .letters => 0x1F
  | .figures => 0x1B

/-- The least code whose table entry is the character `c`; an entry `none` matches no byte (R164). -/
def ita2Lookup (table : Vector (Option Byte) 32) (c : Byte) : Option Nat := table.toList.idxOf? (some c)

/-- The shift-independent controls: space, CR and LF (R161). -/
def ita2Control (c : Byte) : Bool := c == 0x20 || c == 0x0D || c == 0x0A

/-- `classify(b)` (R164): the code and the shift it needs, `none` for `ANY`; `none` altogether for an unencodable character. -/
def classify (cfg : Config) (b : Byte) : Option (BitVec 5 × Option Shift) :=
  let c := upper b
  match ita2Lookup cfg.ita2Letters c with
  | some k => some (BitVec.ofNat 5 k, if ita2Control c then none else some .letters)
  | none =>
    match ita2Lookup cfg.ita2Figures c with
    | some k => some (BitVec.ofNat 5 k, some .figures)
    | none => none

/-- The code list of the first pass from a shift state (R171); an unencodable character changes no working value (R165). -/
def rttyCodes (cfg : Config) : Shift → Text → List (BitVec 5)
  | _, [] => []
  | shift, b :: t =>
    match classify cfg b with
    | none => rttyCodes cfg shift t
    | some (k, none) => k :: rttyCodes cfg shift t
    | some (k, some need) =>
      if need = shift then k :: rttyCodes cfg shift t else shiftCode need :: k :: rttyCodes cfg need t

/-- `bit_dur = floor(1_000_000 / baud_rate)` for a positive baud rate (R166). -/
def rttyBitDur (baud : Rat) : Nat := ((1000000 : Rat) / baud).floor.toNat

/-- `stop_dur = floor(bit_dur * stop_bits)` (R166). -/
def rttyStopDur (bitDur : Nat) (stopBits : Rat) : Nat := ((bitDur : Rat) * stopBits).floor.toNat

/-- The tones `(mark, space)` (R167). -/
def rttyTones (o : EncRttyOpr) : Rat × Rat :=
  let shift : Rat := (o.shiftHz.toNat : Rat)
  let tones : Rat × Rat := if o.centerOnCarrier then (-(shift / 2), shift / 2) else (0, shift)
  if o.reverseShift then (tones.2, tones.1) else tones

/-- The rejection condition of R168. -/
def rttyRejected (o : EncRttyOpr) : Bool :=
  decide (o.baudRate ≤ 0) || decide (o.stopBits ≤ 0) ||
    decide (rttyBitDur o.baudRate = 0) || decide (rttyStopDur (rttyBitDur o.baudRate) o.stopBits = 0) ||
    decide (2 ^ 32 - 1 < rttyBitDur o.baudRate) || decide (2 ^ 32 - 1 < rttyStopDur (rttyBitDur o.baudRate) o.stopBits)

/-- The 7 symbols of one Baudot code: start bit, 5 data bits LSB first, stop bit, all with the carrier on (R169).
The durations passed here have been checked to fit DUR_W bits (R168). -/
def rttyCodeSymbols (mark space : Rat) (bitDur stopDur : Nat) (k : BitVec 5) : List TxSymbol :=
  let bit (f : Rat) : TxSymbol := { freq := f, dur := BitVec.ofNat 32 bitDur, on := true }
  bit space :: (List.range 5).map (fun i => bit (if k.getLsbD i then mark else space)) ++
    [{ freq := mark, dur := BitVec.ofNat 32 stopDur, on := true }]

/-- The second pass: the symbols of every code, first to last (R170). -/
def rttySymbols (o : EncRttyOpr) (codes : List (BitVec 5)) : List TxSymbol :=
  let bitDur := rttyBitDur o.baudRate
  codes.flatMap (rttyCodeSymbols (rttyTones o).1 (rttyTones o).2 bitDur (rttyStopDur bitDur o.stopBits))

/-- `ENC_RTTY` (R170): the operand domain (R96), rejection (R168), capacity (R172), then the sequence. Every run starts in LETTERS (R171). -/
def execEncRtty (s : State) : Host.Outcome State Fault Refusal :=
  let o := s.opr.encRtty
  let codes := rttyCodes s.cfg .letters o.text
  if !textOk s.cfg o.text || rttyRejected o then
    .next (errorCompletion (.sequence .rtty o.base) .validationError s)
  else if s.cfg.symCap < 7 * codes.length then
    .next (errorCompletion (.sequence .rtty o.base) .allocationError s)
  else
    .next (completeSeq .rtty o.base (rttySymbols o codes) s)

end Sys2Proof.Machine
end

