-- ==== Sys2Proof/Machine/Wspr.lean ====
section
/-! DEFINITION. The WSPR encoder, `ENC_WSPR` (R190 to R219): each stage is a function (R214), the operation their composition (R215). -/

namespace Sys2Proof.Machine

/-! ## Validation (R192, R193) -/

/-- Clause (b): a digit, a letter of either case, or `/`. -/
def wsprCallChar (c : Byte) : Bool := isDigit c || isLetter c || c == 0x2F

/-- Clauses (c) to (e): four characters, two of `A` to `R`, two digits. -/
def wsprGridOk (g : Text) : Bool :=
  match g with
  | [c0, c1, c2, c3] => upperUpTo 0x52 c0 && upperUpTo 0x52 c1 && isDigit c2 && isDigit c3
  | _ => false

/-- Clause (f): the nineteen powers. -/
def wsprPowers : List Int := [0, 3, 7, 10, 13, 17, 20, 23, 27, 30, 33, 37, 40, 43, 47, 50, 53, 57, 60]

/-- Validation, clauses (a) to (f) of R192. -/
def wsprValid (o : EncWsprOpr) : Bool :=
  lenIn 2 6 o.callsign.val && o.callsign.val.all wsprCallChar && wsprGridOk o.grid.val && wsprPowers.contains o.powerDbm.toInt

/-! ## Stage 1: callsign packing (R196 to R200) -/

/-- `s'` of R196: a leading space when the callsign starts with a letter and then a digit. -/
def wsprShifted (call : Text) : Text :=
  match call with
  | c0 :: c1 :: _ => if isLetter c0 && isDigit c1 then space :: call else call
  | _ => call

/-- The canonical form `C6` (R196): `s'` padded on the right with spaces to 6 characters. -/
def wsprC6 (call : Text) : Text := padRight 6 (wsprShifted call)

/-- `C6` is representable (R197). A form of more than six characters is not. -/
def wsprRepresentable (c6 : Text) : Bool :=
  match c6 with
  | [c0, c1, c2, c3, c4, c5] =>
    (c0 == space || isDigit c0 || isUpper c0) && (isDigit c1 || isUpper c1) && isDigit c2 &&
      (isUpper c3 || c3 == space) && (isUpper c4 || c4 == space) && (isUpper c5 || c5 == space)
  | _ => false

/-- The character code `wc(c)` (R198): digits 0 to 9, upper-case letters 10 to 35, space 36. -/
def wsprCode (c : Byte) : Nat :=
  if isDigit c then digitVal c else if isUpper c then letterVal c + 10 else 36

/-- `N`, the mixed-radix integer of the six cell values, with the radices and the `value - 10` of R199 and R200. -/
def wsprN (c6 : Text) : Nat :=
  match c6 with
  | [c0, c1, c2, c3, c4, c5] =>
    mixed [(wsprCode c0, 37), (wsprCode c1, 36), (wsprCode c2, 10), (wsprCode c3 - 10, 27), (wsprCode c4 - 10, 27),
      (wsprCode c5 - 10, 27)]
  | _ => 0

/-! ## Stage 2: grid and power packing (R201, R202) -/

/-- `M = ((179 - 10*loc1 - loc3) * 180 + 10*loc2 + loc4) * 128 + power_dbm + 64` for a validated grid and power (R202).
R217 and V-WS-7 print 64 for `RR99`, power 0, where this formula, as in V-WS-4, gives 22976: DEDUCED, R202 is followed (log entry 16). -/
def wsprM (grid : Text) (powerDbm : Int) : Nat :=
  match grid with
  | [c0, c1, c2, c3] =>
    ((179 - 10 * letterVal c0 - digitVal c2) * 180 + 10 * letterVal c1 + digitVal c3) * 128 + powerDbm.toNat + 64
  | _ => 0

/-! ## Stage 3: bit packing (R203) -/

/-- The packed buffer `PK`: `N` at buffer bits 0 to 27, `M` at 28 to 49, all padding bits 0 (R203). -/
def wsprPack (N M : Nat) : Buf 11 := bufWrite (bufWrite (Vector.replicate 11 0) 0 28 N) 28 22 M

/-! ## Stage 4: convolutional coding (R204 to R206) -/

/-- The generator polynomial `G1` (R204). -/
def wsprG1 : BitVec 32 := 0xF2D05351

/-- The generator polynomial `G2` (R204). -/
def wsprG2 : BitVec 32 := 0xE4613C47

/-- `parity(v) = popcount(v) mod 2` (R13). -/
def parity32 (v : BitVec 32) : Bool := (List.range 32).foldl (fun p i => p ^^ v.getLsbD i) false

/-- The register after the input bit `u`: `CREG <- ((CREG << 1) | u) mod 2^32` (R205). -/
def wsprShiftIn (creg : BitVec 32) (u : Bool) : BitVec 32 := (creg <<< 1) ||| (if u then 1 else 0)

/-- The coder on the input bits that remain: each step appends `parity(CREG & G1)`, then `parity(CREG & G2)` (R205). -/
def wsprCoder (creg : BitVec 32) : List Bool → List Bool
  | [] => []
  | u :: us =>
    let c := wsprShiftIn creg u
    parity32 (c &&& wsprG1) :: parity32 (c &&& wsprG2) :: wsprCoder c us

/-- The input bits: buffer bits 0 to 80 of `PK` in increasing order; the coder stops after 81 steps, when 162 output bits exist (R206). -/
def wsprInputBits (pk : Buf 11) : List Bool := (List.range 81).map (bufBit pk)

/-- `CONV[0..161]` (R206): the register starts at 0 (R204). -/
def wsprConv (pk : Buf 11) : List Bool := wsprCoder 0 (wsprInputBits pk)

/-! ## Stage 5: interleaving (R208) -/

/-- `bit_reverse8(j)`: the 8-bit value whose bit `i` is bit `7-i` of `j` (R208). -/
def bitReverse8 (j : Nat) : Nat := ((List.range 8).map fun i => if j.testBit (7 - i) then 2 ^ i else 0).sum

/-- The working values of the loop of R208. -/
structure InterleaveWork where
  p : Nat
  ilv : Vector Bool 162
  deriving DecidableEq, Repr

/-- One iteration of R208: `if rev < 162: ILV[rev] <- CONV[p]; p <- p + 1`. -/
def interleaveStep (conv : List Bool) (w : InterleaveWork) (j : Nat) : InterleaveWork :=
  if bitReverse8 j < 162 then { p := w.p + 1, ilv := w.ilv.setIfInBounds (bitReverse8 j) (conv.getD w.p false) } else w

/-- `ILV[0..161]` (R208); every position is written exactly once. -/
def wsprInterleave (conv : List Bool) : Vector Bool 162 :=
  ((List.range 256).foldl (interleaveStep conv) { p := 0, ilv := Vector.replicate 162 false }).ilv

/-! ## Stages 6 and 7: sync merge and symbols (R210 to R213) -/

/-- `TONE[i] = 2 * ILV[i] + SYNC_VECTOR[i]` (R210). -/
def wsprTones (sync ilv : Vector Bool 162) : Vector Nat 162 := Vector.zipWith (fun d y => 2 * d.toNat + y.toNat) ilv sync

/-- A symbol: frequency offset `tone_index * 14648/10000` Hz, 682667 microseconds, carrier on (R212, R213). -/
def wsprSymbol (tone : Nat) : TxSymbol := { freq := mkRat (tone * 14648) 10000, dur := 682667, on := true }

/-- The tones of a message in canonical form: stages 1 to 6 composed (R195, R214). -/
def wsprToneStage (cfg : Config) (c6 grid : Text) (powerDbm : Int) : Vector Nat 162 :=
  wsprTones cfg.syncVector (wsprInterleave (wsprConv (wsprPack (wsprN c6) (wsprM grid powerDbm))))

/-- `ENC_WSPR` (R215): validation (R192), capacity 162 (R216), representability (R197), then the 162 symbols. -/
def execEncWspr (s : State) : Host.Outcome State Fault Refusal :=
  let o := s.opr.encWspr
  if !wsprValid o then
    .next (errorCompletion (.sequence .wspr o.base) .validationError s)
  else if s.cfg.symCap < 162 then
    .next (errorCompletion (.sequence .wspr o.base) .allocationError s)
  else if !wsprRepresentable (wsprC6 o.callsign.val) then
    .refused .wsprUnrepresentable
  else
    .next (completeSeq .wspr o.base
      ((wsprToneStage s.cfg (wsprC6 o.callsign.val) o.grid.val o.powerDbm.toInt).toList.map wsprSymbol) s)

end Sys2Proof.Machine
end

