-- ==== Sys2Proof/Machine/Dispatch.lean ====
section
/-! DEFINITION. The dispatch of an operation to its meaning, one arm per row of the opcode table. -/

namespace Sys2Proof.Machine

def exec (i : Instr) (s : State) : Host.Outcome State Fault Refusal :=
  match i with
  | .encCw => Sys2Proof.Machine.execEncCw s
  | .encRtty => Sys2Proof.Machine.execEncRtty s
  | .encWspr => Sys2Proof.Machine.execEncWspr s
  | .packBits => Sys2Proof.Machine.execPackBits s
  | .unpackBits => Sys2Proof.Machine.execUnpackBits s
  | .feC28 => Sys2Proof.Machine.execFeC28 s
  | .feG15 => Sys2Proof.Machine.execFeG15 s
  | .feG25 => Sys2Proof.Machine.execFeG25 s
  | .feC58 => Sys2Proof.Machine.execFeC58 s
  | .feF71 => Sys2Proof.Machine.execFeF71 s
  | .feT71 => Sys2Proof.Machine.execFeT71 s
  | .feHash => Sys2Proof.Machine.execFeHash s
  | .feS7 => Sys2Proof.Machine.execFeS7 s
  | .feState => Sys2Proof.Machine.execFeState s
  | .feR2 => Sys2Proof.Machine.execFeR2 s
  | .feR3 => Sys2Proof.Machine.execFeR3 s
  | .feR5 => Sys2Proof.Machine.execFeR5 s
  | .feK3 => Sys2Proof.Machine.execFeK3 s
  | .feS11 => Sys2Proof.Machine.execFeS11 s
  | .ftxFreeText => Sys2Proof.Machine.execFtxFreeText s
  | .ftxDxped => Sys2Proof.Machine.execFtxDxped s
  | .ftxFieldDay => Sys2Proof.Machine.execFtxFieldDay s
  | .ftxTelemetry => Sys2Proof.Machine.execFtxTelemetry s
  | .ftxStandard => Sys2Proof.Machine.execFtxStandard s
  | .ftxEuVhf2 => Sys2Proof.Machine.execFtxEuVhf2 s
  | .ftxRttyRu => Sys2Proof.Machine.execFtxRttyRu s
  | .ftxNonstd => Sys2Proof.Machine.execFtxNonstd s
  | .ftxEuVhf5 => Sys2Proof.Machine.execFtxEuVhf5 s

end Sys2Proof.Machine
end

