-- ==== Sys2Proof/Machine/Command.lean ====
section
/-! DEFINITION. What Step.lean calls: executing one opcode, and writing a record and an opcode. -/

namespace Sys2Proof.Machine

/-- Execute the opcode `op` once on the current OPR (R26, R90): the operation it names, or the completion with ILLEGAL_COMMAND when it names
none (R93, R324); the illegal opcode is judged before any operand is looked at (R328). -/
def runOpcode (op : Byte) (s : State) : Host.Outcome State Fault Refusal :=
  match decode op with
  | .ok i => exec i s
  | .error (.illegalOpcode _) => .next (illegalCommand s)

/-- The command register once its opcode has been taken: it "holds no state between commands" (R26). -/
def clearCmd (s : State) : State := { s with cmd := none }

/-- The host's write of an opcode to CMD (R26, R355). -/
def latchCmd (op : Byte) (s : State) : State := { s with cmd := some op }

/-- What stands for the host's write of the operand record that precedes its write of CMD (R90, R353): where OPR holds no record of the
opcode's shape, a blank one takes its place; a record of that shape stays as it is. -/
def preparedOpr (op : Byte) (opr : Opr) : Opr :=
  match decode op with
  | .ok i => if opr.holds i then opr else .record (blankRecord i)
  | .error _ => opr

end Sys2Proof.Machine
end

