-- ==== Sys2Proof/Machine/Step.lean ====
section
/-! DEFINITION. One step of the engine: it takes the opcode the host has written to CMD and executes that operation to completion (R355). -/

namespace Sys2Proof.Machine

/-- One step. With an opcode in CMD the engine executes that one operation; with none it does nothing, for it "never acts except on a
command" (R20). -/
def step (s : State) : Host.Outcome State Fault Refusal :=
  match s.cmd with
  | some op => runOpcode op (clearCmd s)
  | none => .next s

/-- `s` with the opcode `w` written to CMD, and with an operand record of its shape in OPR, so that the next step executes it: on the record
`s` holds where that has the opcode's shape, else on a blank one. A command is one byte (R90), and nothing else is fetched (R23). -/
def State.withFetchWord (s : State) (nbits w : Nat) : State :=
  latchCmd (BitVec.ofNat 8 (w % 2 ^ nbits)) { s with opr := preparedOpr (BitVec.ofNat 8 (w % 2 ^ nbits)) s.opr }

end Sys2Proof.Machine
end

