-- ==== Sys2Proof/Machine/Port.lean ====
section
/-! DEFINITION. The register port: what the host and the player can read and write between operations (R36, R74), the reset, and a
sequence of such actions (R77). The engine itself is `step`; nothing here changes what an operation does. -/

namespace Sys2Proof.Machine

/-- The two agents outside the engine (R20). -/
inductive Agent where
  | host
  | player
  deriving DecidableEq, Repr

/-- What a read answers: an unsigned number of the register's width, a TxSymbol, the operand record, or a value of which nothing is
specified (a read of CMD, R26; a read of OPR before the host has written it, R350). -/
inductive ReadValue where
  | number (v : Nat)
  | symbol (t : TxSymbol)
  | record (o : OprRecord)
  | unspecified
  deriving DecidableEq, Repr

/-- The register map as seen by a reader (R36): register or window number, and the index inside a window (0 for a register).
No read has a side effect (R72). -/
def portRead (a : Agent) (reg i : Nat) (s : State) : Host.Outcome ReadValue Fault Refusal :=
  match a, reg with
  | _, 0x03 => .next (.number (seqModeWord s.seqMode).toNat)
  | _, 0x04 => .next (.number s.seqBase.toNat)
  | _, 0x05 => .next (.number s.seqLen)
  | _, 0x06 => .next (.number s.seqCursor)
  | _, 0x07 => .next (.number s.seqRepeat.toNat)
  | _, 0x40 =>
    if i < s.seqLen then
      match s.sym[i]? with
      | some t => .next (.symbol t)
      | none => .fault (.symBeyondSeqLen i)
    else .fault (.symBeyondSeqLen i)
  | .host, 0x00 => .next .unspecified
  | .host, 0x01 => .next (.number (statusWord s.status).toNat)
  | .host, 0x02 => .next (.number s.result.toNat)
  | .host, 0x10 =>
    match s.opr with
    | .record r => .next (.record r)
    | .unwritten => .next .unspecified
  | .host, 0x20 =>
    match s.frame[i]? with
    | some b => .next (.number b.toNat)
    | none => .fault (.noSuchRegister reg)
  | .host, 0x30 =>
    match s.b71[i]? with
    | some b => .next (.number b.toNat)
    | none => .fault (.noSuchRegister reg)
  | .host, n => if 0x08 ≤ n ∧ n ≤ 0x0F then .next (.number 0) else .fault (.noSuchRegister n)
  | .player, n => .fault (.noAccessRight n)

/-- The host's read of a bit field of FRAME: the same bits under the other numbering (R63, R66, R71). -/
def portReadFrameField (off w : Nat) (s : State) : Host.Outcome ReadValue Fault Refusal :=
  if 1 ≤ w ∧ w ≤ 64 ∧ off + w ≤ 80 then .next (.number (bufRead s.frame off w)) else .fault (.noSuchRegister 0x20)

/-- The host's read of a bit field of B71 (R63, R66, R71). -/
def portReadB71Field (off w : Nat) (s : State) : Host.Outcome ReadValue Fault Refusal :=
  if 1 ≤ w ∧ w ≤ 64 ∧ off + w ≤ 72 then .next (.number (bufRead s.b71 off w)) else .fault (.noSuchRegister 0x30)

/-- A write to the register map (R36). `other` is a write to any register number not named by the other alternatives. -/
inductive PortWrite where
  | cmd (op : Byte)
  | opr (r : OprRecord)
  | seqCursor (n : Nat)
  | seqRepeat (b : Bool)
  | other (reg : Nat)
  deriving DecidableEq, Repr

/-- The write: CMD and OPR belong to the host, SEQ_CURSOR and SEQ_REPEAT to both agents (R32, R36, R358). A write to CMD is the execution of
the operation (R355). A write to a reserved number is ignored; every other register is read-only. -/
def portWrite (a : Agent) (w : PortWrite) (s : State) : Host.Outcome State Fault Refusal :=
  match w, a with
  | .cmd op, .host => step (latchCmd op s)
  | .opr r, .host => .next { s with opr := .record r }
  | .seqCursor n, _ => .next { s with seqCursor := n }
  | .seqRepeat b, _ => .next { s with seqRepeat := b }
  | .other reg, .host =>
    if 0x08 ≤ reg ∧ reg ≤ 0x0F then .next s
    else if reg ≤ 0x05 ∨ reg = 0x20 ∨ reg = 0x30 ∨ reg = 0x40 then .fault (.noAccessRight reg)
    else .fault (.noSuchRegister reg)
  | .cmd _, .player => .fault (.noAccessRight 0x00)
  | .opr _, .player => .fault (.noAccessRight 0x10)
  | .other reg, .player => .fault (.noAccessRight reg)

/-- An action on the engine between operations: a register write, or the reset (R351). -/
inductive Action where
  | write (a : Agent) (w : PortWrite)
  | reset
  deriving DecidableEq, Repr

/-- One action. Reset keeps the configuration (R350). -/
def act (s : State) : Action → Host.Outcome State Fault Refusal
  | .write a w => portWrite a w s
  | .reset => .next (State.resetWith s.cfg)

/-- Actions in order (R77): the state after them, or the first stop. -/
def runActions : List Action → State → Host.Outcome State Fault Refusal
  | [], s => .next s
  | x :: xs, s =>
    match act s x with
    | .next t => runActions xs t
    | .fault r => .fault r
    | .refused r => .refused r

/-- A command as the host issues it: the operand record first, then the opcode (R90, R353). -/
def issue (r : OprRecord) (op : Byte) : List Action := [.write .host (.opr r), .write .host (.cmd op)]

end Sys2Proof.Machine
end

