-- ==== Sys2Proof/Safety.lean ====
section
/-! DEFINITION. What a good state is, and the closed forms of the spec that the statements compare the machine with, in the
terms the statements use. No meaning calls anything of this file. -/

namespace Sys2Proof.Machine

/-! ## States -/

/-- Every symbol lasts: "Duration must be > 0" (R34). -/
def AllLast (S : List TxSymbol) : Prop := ∀ t ∈ S, 0 < t.dur.toNat

/-- The invariants of the sequence state of R34 that speak of one state: SYM holds exactly `SEQ_LEN` entries (R33), `SEQ_LEN <= SYM_CAP`, and
every entry lasts. -/
structure SeqInv (s : State) : Prop where
  len : s.seqLen = s.sym.length
  cap : s.seqLen ≤ s.cfg.symCap
  last : AllLast s.sym

/-- The on-air time of the current sequence in microseconds (R34, R361). -/
def onAirTime (S : List TxSymbol) : Nat := (S.map fun t => t.dur.toNat).sum

/-- The whole sequence state (R31 to R33) is the same in the two states. -/
structure SameSequence (s t : State) : Prop where
  mode : t.seqMode = s.seqMode
  base : t.seqBase = s.seqBase
  len : t.seqLen = s.seqLen
  cursor : t.seqCursor = s.seqCursor
  rep : t.seqRepeat = s.seqRepeat
  sym : t.sym = s.sym

/-- What no operation ever writes: OPR (R37), the configuration (R79), and CMD, which is empty while an operation runs (R26). -/
structure SameOperands (s t : State) : Prop where
  cfg : t.cfg = s.cfg
  cmd : t.cmd = s.cmd
  opr : t.opr = s.opr

/-! ## Families of operations (R37) -/

/-- `ENC_CW`, `ENC_RTTY`, `ENC_WSPR`. -/
def isSequenceEncoder (i : Instr) : Bool := opcodeGroup (encode i) == 0x0

/-- The fourteen `FE_*` operations. -/
def isFieldEncoder (i : Instr) : Bool := opcodeGroup (encode i) == 0x2

/-- The nine `FTX_*` operations. -/
def isPayloadPacker (i : Instr) : Bool := opcodeGroup (encode i) == 0x4

/-- Operations that write FRAME: the payload packers and `PACK_BITS`. -/
def writesFrame (i : Instr) : Bool := isPayloadPacker i || i == .packBits

/-- Operations "whose operand types admit every value" (R339): they complete with `OK` only. -/
def neverFails (i : Instr) : Bool := [Instr.feG25, .feS7, .feState, .feR3, .feR5, .feK3, .feS11].contains i

/-- The mode of a sequence encoder's sequence (R132). -/
def sequenceMode (i : Instr) : SeqMode :=
  if i = .encCw then .cw else if i = .encRtty then .rtty else if i = .encWspr then .wspr else .none

/-- The `base` operand that a sequence encoder reads (R132). -/
def sequenceBase (i : Instr) (s : State) : BitVec 32 :=
  match s.opr.recordFor i with
  | .encCw o => o.base
  | .encRtty o => o.base
  | .encWspr o => o.base
  | _ => 0

/-! ## The closed form of a CW sequence (R147) -/

/-- The number of spaces "that follow before the next encodable character or the end of the text". -/
def spacesBefore (cfg : Config) : Text → Nat
  | [] => 0
  | b :: t => if upper b = space then spacesBefore cfg t + 1 else if (morseCode cfg (upper b)).isSome then 0 else spacesBefore cfg t

/-- "an encodable character follows with no space in between". -/
def charFollows (cfg : Config) : Text → Bool
  | [] => false
  | b :: t => if upper b = space then false else if (morseCode cfg (upper b)).isSome then true else charFollows cfg t

/-- The length in dots of the last carrier-off symbol of a character that the text `t` follows: `1 + 2a + 6b`. -/
def cwGap (cfg : Config) (t : Text) : Nat := 1 + 2 * (charFollows cfg t).toNat + 6 * spacesBefore cfg t

/-- The symbols of one character whose last carrier-off symbol lasts `gap` dots. -/
def cwCodeShape (dot gap : Nat) : List MorseElem → List Draft
  | [] => []
  | e :: r =>
    { freq := 0, dur := (match e with | .dot => dot | .dash => 3 * dot), on := true } ::
      { freq := 0, dur := dot * (if r = [] then gap else 1), on := false } :: cwCodeShape dot gap r

/-- The sequence of R147. -/
def cwShape (cfg : Config) (dot : Nat) : Text → List Draft
  | [] => []
  | b :: t =>
    match morseCode cfg (upper b) with
    | some code => cwCodeShape dot (cwGap cfg t) code ++ cwShape cfg dot t
    | none => cwShape cfg dot t

/-! ## What a teleprinter prints (R161, R171) -/

/-- The ITA2 table of a shift state. -/
def ita2Table (cfg : Config) : Shift → Vector (Option Byte) 32
  | .letters => cfg.ita2Letters
  | .figures => cfg.ita2Figures

/-- The text a receiver that tracks the shift state reads from a code list: the two shift codes print nothing and change the state, every
other code prints its character in the table of the current state. -/
def rttyPrint (cfg : Config) : Shift → List (BitVec 5) → Text
  | _, [] => []
  | shift, k :: r =>
    if k = 0x1F then rttyPrint cfg .letters r
    else if k = 0x1B then rttyPrint cfg .figures r
    else
      match (ita2Table cfg shift)[k.toNat]? with
      | some (some c) => c :: rttyPrint cfg shift r
      | _ => rttyPrint cfg shift r

/-- The two tables name no character at a shift code, and a control character of LETTERS stands at the same code in FIGURES (R162 to R164). -/
def ita2Consistent (cfg : Config) : Prop :=
  (∀ sh, (ita2Table cfg sh)[0x1F]? = some none ∧ (ita2Table cfg sh)[0x1B]? = some none) ∧
    ∀ (k : Nat) (c : Byte), cfg.ita2Letters[k]? = some (some c) → ita2Control c = true → cfg.ita2Figures[k]? = some (some c)

/-! ## The closed form of the convolutional code (R207) -/

/-- The XOR of a list of bits. -/
def xorAll (bs : List Bool) : Bool := bs.foldl (fun p b => p ^^ b) false

/-- "XOR over d in 0..31 with `G[d] = 1` of `u[t-d]`", with `u[t] = 0` for `t < 0`. -/
def convTap (G : BitVec 32) (u : List Bool) (t : Nat) : Bool :=
  xorAll ((List.range 32).map fun d => G.getLsbD d && decide (d ≤ t) && u.getD (t - d) false)

/-! ## Strings and their cells -/

/-- Every character of `t` is in the alphabet `A`. -/
def allIn (A : Text) (t : Text) : Bool := t.all fun c => A.contains c

/-- A canonical callsign form whose every cell is in its alphabet (R241). -/
def canonicalCells (c6 : Text) : Bool :=
  match c6 with
  | [c0, c1, c2, c3, c4, c5] =>
    a37.contains c0 && a36.contains c1 && a10.contains c2 && a27.contains c3 && a27.contains c4 && a27.contains c5
  | _ => false

end Sys2Proof.Machine
end

