-- ==== Sys2Proof/Certificates/Slice0/Obligations.lean ====
section
/-! DEFINITION. The statements for the provers. Each docstring names the rules of the spec it formalises. A statement about an operation that
completes gives the next state as an explicit update of the state before, which is at once its frame: FRAME, SYM, the header, OPR and the
configuration are as before where the update does not name them. -/

section

open Sys2Proof Sys2Proof.Machine

/-! ## Reset, commands, decoding -/

/-- R350, R39, R351: the state after reset. What OPR holds there is the model's choice (log entry 1), of which nothing is said here. -/
def Obligations.ResetState : Prop :=
  (∀ cfg : Config,
    let r := State.resetWith cfg
    r.cfg = cfg ∧ r.cmd = none ∧ statusWord r.status = 0 ∧ r.result = 0 ∧ r.b71.toList = List.replicate 9 0 ∧
      r.frame.toList = List.replicate 10 0 ∧ seqModeWord r.seqMode = 0 ∧ r.seqBase = 0 ∧ r.seqLen = 0 ∧ r.seqCursor = 0 ∧
      r.seqRepeat = false ∧ r.sym = []) ∧
    (∀ s : State, act s .reset = .next (State.resetWith s.cfg)) ∧ State.reset = State.resetWith State.reset.cfg

/-- R34, R350: the reset state has the sequence invariant, whatever the configuration. The spec derives R34 itself. -/
def Obligations.ResetHasSequenceInvariant : Prop := (∀ cfg : Config, SeqInv (State.resetWith cfg)) ∧ SeqInv State.reset

/-- R26, R90, R355: a step runs the operation the opcode in CMD names, once, on the current OPR, and CMD is empty afterwards; a write of
CMD by the host is that step; without a command the engine does nothing (R20). The word placed where a step fetches is that write of
CMD, after the write of a record of the opcode's shape where OPR holds none. That the opcode is held in CMD until the step takes it is
the model's choice (log entry 4). -/
def Obligations.StepRunsDecodedCommand : Prop :=
  (∀ (s : State) (op : Byte) (i : Instr), s.cmd = some op → decode op = .ok i → step s = exec i { s with cmd := none }) ∧
    (∀ (s : State) (op : Byte) (i : Instr), decode op = .ok i → portWrite .host (.cmd op) s = exec i { s with cmd := none }) ∧
    (∀ s : State, s.cmd = none → step s = .next s) ∧
    ∀ (s : State) (w : Nat), w < 256 →
      s.withFetchWord 8 w = { s with cmd := some (BitVec.ofNat 8 w), opr := (s.withFetchWord 8 w).opr } ∧
        ∀ i, decode (BitVec.ofNat 8 w) = .ok i →
          (s.withFetchWord 8 w).opr.holds i = true ∧ (s.opr.holds i = true → (s.withFetchWord 8 w).opr = s.opr)

/-- R93, R324: every opcode of the list completes at once with ILLEGAL_COMMAND, whatever OPR holds, and changes nothing but STATUS,
RESULT and B71. -/
def Obligations.IllegalOpcodeCompletes : Prop :=
  ∀ (s : State) (op : Byte), s.cmd = some op →
    (op.toNat = 0x00 ∨ (0x04 ≤ op.toNat ∧ op.toNat ≤ 0x0F) ∨ (0x12 ≤ op.toNat ∧ op.toNat ≤ 0x1F) ∨
      (0x2E ≤ op.toNat ∧ op.toNat ≤ 0x3F) ∨ (0x49 ≤ op.toNat ∧ op.toNat ≤ 0xFF)) →
    step s = .next { s with cmd := none, status := .illegalCommand, result := 0, b71 := zeroB71 }

/-- R92, R118: one word of each group, written out bit by bit, and two words that name no operation. -/
def Obligations.OpcodeWordsDecode : Prop :=
  decode 0b00000001 = .ok .encCw ∧ decode 0b00000011 = .ok .encWspr ∧ decode 0b00010000 = .ok .packBits ∧
    decode 0b00100110 = .ok .feHash ∧ decode 0b00101101 = .ok .feS11 ∧ decode 0b01000100 = .ok .ftxStandard ∧
    decode 0b01001000 = .ok .ftxEuVhf5 ∧ decode 0b00000000 = .error (.illegalOpcode 0b00000000) ∧
    decode 0b01001001 = .error (.illegalOpcode 0b01001001)

/-- R90 to R94, R118: decode and encode agree, in both directions, for every operation and every byte; and the table's word of an
operation is its opcode and nothing else. -/
def Obligations.DecodeEncodeAgree : Prop :=
  (∀ (i : Instr) (op : Byte), i.wf = true → (decode op = .ok i ↔ encode i = op)) ∧
    ∀ (i : Instr) (n w : Nat), decodeTableWord n w = some i ↔ n = 8 ∧ w = (encode i).toNat

/-! ## Invariants and whole-machine rules -/

/-- R34, R33, R79, R37: every step from a state with the sequence invariant keeps it: SYM holds `SEQ_LEN` entries, at most SYM_CAP of
them, each of a duration above 0. Configuration and operands are never written, and no command is left in CMD. The spec derives R34
itself; a CW duration beyond 32 bits is the free value of log entry 5. -/
def Obligations.StepKeepsSequenceInvariant : Prop :=
  ∀ s t : State, SeqInv s → step s = .next t → SeqInv t ∧ t.cfg = s.cfg ∧ t.opr = s.opr ∧ t.cmd = none

/-- R34, R77, R79: whatever host and player write, in any order, resets included, the sequence invariant holds between the operations. -/
def Obligations.ActionsKeepSequenceInvariant : Prop :=
  ∀ (acts : List Action) (s t : State), SeqInv s → runActions acts s = .next t → SeqInv t ∧ t.cfg = s.cfg

/-- R37: the write rights of the engine by operation family, an illegal opcode's among them. -/
def Obligations.WriteRights : Prop :=
  (∀ (i : Instr) (s t : State), exec i s = .next t →
    SameOperands s t ∧
      (isSequenceEncoder i = true → t.result = 0 ∧ t.b71 = zeroB71 ∧ t.frame = s.frame) ∧
      (isFieldEncoder i = true → t.frame = s.frame ∧ SameSequence s t) ∧
      (writesFrame i = true → t.result = 0 ∧ t.b71 = zeroB71 ∧ SameSequence s t) ∧
      (i = .unpackBits → t.b71 = zeroB71 ∧ t.frame = s.frame ∧ SameSequence s t)) ∧
    ∀ (op : Byte) (s : State), (∀ i, decode op ≠ .ok i) →
      runOpcode op s = .next { s with status := .illegalCommand, result := 0, b71 := zeroB71 }

/-- R321, R323, R339: the codes an operation can complete with. -/
def Obligations.CompletionCodes : Prop :=
  ∀ (i : Instr) (s t : State), exec i s = .next t →
    t.status ≠ .idle ∧ t.status ≠ .illegalCommand ∧
      (t.status = .allocationError → isSequenceEncoder i = true ∧ (i = .encWspr → s.cfg.symCap < 162)) ∧
      (t.status = .validationError → neverFails i = false)

/-- R132, R133: the two completions of a sequence encoder, every register of them. That a command whose record OPR does not hold completes
too, with an unknown `base` operand in SEQ_BASE, is the model's choice (log entry 1, DESIGN CHOICE): U1 puts it outside the spec's model. -/
def Obligations.SequenceCompletions : Prop :=
  ∀ (i : Instr) (s t : State), isSequenceEncoder i = true → exec i s = .next t →
    (t.status = .ok ∧
      t = { s with
            status := .ok, result := 0, b71 := zeroB71, seqMode := sequenceMode i, seqBase := sequenceBase i s, seqLen := t.sym.length,
            seqCursor := 0, seqRepeat := false, sym := t.sym }) ∨
    ((t.status = .validationError ∨ t.status = .allocationError) ∧
      t = { s with
            status := t.status, result := 0, b71 := zeroB71, seqMode := sequenceMode i, seqBase := sequenceBase i s, seqLen := 0,
            seqCursor := 0, seqRepeat := false, sym := [] })

/-- R134: the completions of an operation that produces no sequence. -/
def Obligations.OtherCompletions : Prop :=
  ∀ (i : Instr) (s t : State), isSequenceEncoder i = false → exec i s = .next t →
    (writesFrame i = false → i ≠ .feF71 → i ≠ .feT71 →
      t = { s with status := .ok, result := t.result, b71 := zeroB71 } ∨
      t = { s with status := .validationError, result := 0, b71 := zeroB71 }) ∧
    (i = .feF71 ∨ i = .feT71 →
      t = { s with status := .ok, result := 0, b71 := t.b71 } ∨
      t = { s with status := .validationError, result := 0, b71 := zeroB71 }) ∧
    (writesFrame i = true →
      t = { s with status := .ok, result := 0, b71 := zeroB71, frame := t.frame } ∨
      t = { s with status := .validationError, result := 0, b71 := zeroB71, frame := zeroFrame })

/-- R309, R230, R354: what an operation writes depends on the operand record of its command and the configuration alone, and on FRAME
for the two bit-field operations; two states that agree on these get the same results, whatever ran before. That an OPR without the
operation's record gives the same unknown operands each time is the model's choice (log entry 1). -/
def Obligations.ResultsDependOnOperandsOnly : Prop :=
  ∀ (i : Instr) (s s' t : State), s'.cfg = s.cfg → s'.opr = s.opr →
    (i = .packBits ∨ i = .unpackBits → s'.frame = s.frame) → exec i s = .next t →
    ∃ t', exec i s' = .next t' ∧ t'.status = t.status ∧ t'.result = t.result ∧ t'.b71 = t.b71 ∧
      (writesFrame i = true → t'.frame = t.frame) ∧ (isSequenceEncoder i = true → SameSequence t t')

/-- R72, R331: the same command again on the same operands gives the same state again, a failed command among them. That operands OPR does
not hold are unknown and stay the same is the model's choice (log entry 1). -/
def Obligations.CommandTwiceGivesTheSame : Prop :=
  ∀ (i : Instr) (s t : State), exec i s = .next t → exec i t = .next t

/-- R139, R358: once a sequence is handed over, no field encoder, packer, bit-field operation, illegal opcode or operand write touches
it. -/
def Obligations.SequenceIsLeftAlone : Prop :=
  ∀ (acts : List Action) (s t : State),
    (∀ a ∈ acts, (∃ r, a = .write .host (.opr r)) ∨
      ∃ op, a = .write .host (.cmd op) ∧ ∀ i, decode op = .ok i → isSequenceEncoder i = false) →
    runActions acts s = .next t → SameSequence s t

/-- R197, R248, R251, R254, R257, R352: no operation faults, and the refusals are exactly these: a validated WSPR callsign is not
representable (U9, log entry 6), or a character is outside the alphabet (U11, log entry 7), the domain of the record being judged before (log
entry 8). The two other inputs to which the spec gives no result are not refused. A CW duration above 2^32 - 1 (R135, U3) is a free value
(log entry 5). A command whose record OPR does not hold (R25, U1) runs on unknown operands, which is the model's choice (log entry 1): it does
what it does on some record of its shape, of which nothing is said, and on OPR's own record where OPR holds one for the opcode. -/
def Obligations.RefusalsAreExactlyThese : Prop :=
  let hexDigit (c : Byte) : Prop := (0x30 ≤ c.toNat ∧ c.toNat ≤ 0x39) ∨ (0x41 ≤ c.toNat ∧ c.toNat ≤ 0x46) ∨ (0x61 ≤ c.toNat ∧ c.toNat ≤ 0x66)
  (∀ (i : Instr) (s : State) (f : Fault), exec i s ≠ .fault f) ∧
    (∀ (i : Instr) (s : State) (r : Refusal), exec i s = .refused r ↔
      (r = .wsprUnrepresentable ∧ i = .encWspr ∧ wsprValid s.opr.encWspr = true ∧ 162 ≤ s.cfg.symCap ∧
        wsprRepresentable (wsprC6 s.opr.encWspr.callsign.val) = false) ∨
      (r = .charOutsideAlphabet ∧
        ((i = .feC58 ∧ s.opr.feC58.call.length ≤ 11 ∧ allIn a38 (upperText s.opr.feC58.call) = false) ∨
          (i = .feF71 ∧ s.opr.feF71.text.length ≤ 13 ∧ allIn a43 s.opr.feF71.text = false) ∨
          (i = .feT71 ∧ s.opr.feT71.hex.length ≤ 18 ∧ ∃ c ∈ s.opr.feT71.hex, ¬hexDigit c) ∨
          (i = .feHash ∧ (s.opr.feHash.width.toNat = 10 ∨ s.opr.feHash.width.toNat = 12 ∨ s.opr.feHash.width.toNat = 22) ∧
            s.opr.feHash.call.length ≤ 11 ∧ allIn a38 (upperText s.opr.feHash.call) = false) ∨
          (i = .ftxFreeText ∧ s.opr.ftxFreeText.text.length ≤ 13 ∧ allIn a43 s.opr.ftxFreeText.text = false) ∨
          (i = .ftxTelemetry ∧ s.opr.ftxTelemetry.hex.length ≤ 18 ∧ ∃ c ∈ s.opr.ftxTelemetry.hex, ¬hexDigit c) ∨
          (i = .ftxDxped ∧ ftxDxpedOk s.opr.ftxDxped = true ∧ allIn a38 (upperText s.opr.ftxDxped.dxCall) = false) ∨
          (i = .ftxNonstd ∧ ftxNonstdOk s.opr.ftxNonstd = true ∧
            (allIn a38 (upperText s.opr.ftxNonstd.hashCall) = false ∨ allIn a38 (upperText s.opr.ftxNonstd.fullCall) = false)) ∨
          (i = .ftxEuVhf5 ∧ ftxEuVhf5Ok s.opr.ftxEuVhf5 = true ∧
            (allIn a38 (upperText s.opr.ftxEuVhf5.callTo) = false ∨ allIn a38 (upperText s.opr.ftxEuVhf5.callDe) = false))))) ∧
    ∀ (i : Instr) (s : State), (s.opr.recordFor i).instr = i ∧ (s.opr.holds i = true → s.opr = .record (s.opr.recordFor i)) ∧
      exec i s = match exec i { s with opr := .record (s.opr.recordFor i) } with
        | .next t => .next { t with opr := s.opr }
        | .fault f => .fault f
        | .refused r => .refused r

/-- R36, R25, R27 to R33, R63, R71, R72, R74, R358: the register map. The read of every register and window (of CMD, an unspecified value), of
FRAME and B71 by the byte and by the bit field, the two views being one copy; the writes of both agents, each of which changes its
register alone; and what the player cannot write: CMD, OPR, SYM, SEQ_LEN, SEQ_MODE and SEQ_BASE (R358). Three points are the model's: that
an access R36 does not list stops (log entry 9, DESIGN CHOICE); that either agent may set the cursor to any n, also above SEQ_LEN where R32
gives the range 0 to SEQ_LEN (U22, R359, log entry 10, DEDUCED); and that the host's write replaces the whole record of OPR and a read
answers the record written last (log entry 1, DESIGN CHOICE). -/
def Obligations.RegisterMapAccess : Prop :=
  (∀ (a : Agent) (i : Nat) (s : State), s.seqLen ≤ i → portRead a 0x40 i s = .fault (.symBeyondSeqLen i)) ∧
    (∀ (a : Agent) (i : Nat) (s : State) (y : TxSymbol), SeqInv s → s.sym[i]? = some y → portRead a 0x40 i s = .next (.symbol y)) ∧
    (∀ (a : Agent) (s : State),
      portRead a 0x03 0 s = .next (.number (match s.seqMode with | .none => 0 | .cw => 1 | .rtty => 2 | .wspr => 3)) ∧
        portRead a 0x04 0 s = .next (.number s.seqBase.toNat) ∧ portRead a 0x05 0 s = .next (.number s.seqLen) ∧
        portRead a 0x06 0 s = .next (.number s.seqCursor) ∧ portRead a 0x07 0 s = .next (.number s.seqRepeat.toNat)) ∧
    (∀ s : State,
      portRead .host 0x01 0 s = .next (.number (match s.status with
        | .idle => 0 | .ok => 1 | .validationError => 2 | .allocationError => 3 | .illegalCommand => 4)) ∧
        portRead .host 0x02 0 s = .next (.number s.result.toNat) ∧ portRead .host 0x00 0 s = .next .unspecified) ∧
    (∀ (r : OprRecord) (s : State), portWrite .host (.opr r) s = .next { s with opr := .record r } ∧
      (s.opr = .record r → portRead .host 0x10 0 s = .next (.record r))) ∧
    (∀ (i : Nat) (s : State), (∀ b, s.frame[i]? = some b → portRead .host 0x20 i s = .next (.number b.toNat)) ∧
      (∀ b, s.b71[i]? = some b → portRead .host 0x30 i s = .next (.number b.toNat)) ∧
      (i < 10 → portReadFrameField (8 * i) 8 s = portRead .host 0x20 i s) ∧ (i < 9 → portReadB71Field (8 * i) 8 s = portRead .host 0x30 i s)) ∧
    (∀ (off w : Nat) (s : State), 1 ≤ w → w ≤ 64 →
      (off + w ≤ 80 → ∃ v, portReadFrameField off w s = .next (.number v) ∧ v < 2 ^ w ∧
        ∀ k, k < w → v.testBit (w - 1 - k) = bufBit s.frame (off + k)) ∧
      (off + w ≤ 72 → ∃ v, portReadB71Field off w s = .next (.number v) ∧ v < 2 ^ w ∧
        ∀ k, k < w → v.testBit (w - 1 - k) = bufBit s.b71 (off + k))) ∧
    (∀ (n : Nat) (s : State), 0x08 ≤ n → n ≤ 0x0F →
      portRead .host n 0 s = .next (.number 0) ∧ portWrite .host (.other n) s = .next s) ∧
    (∀ (a : Agent) (n : Nat) (b : Bool) (s : State), portWrite a (.seqCursor n) s = .next { s with seqCursor := n } ∧
      portWrite a (.seqRepeat b) s = .next { s with seqRepeat := b }) ∧
    (∀ (op : Byte) (r : OprRecord) (s : State), portWrite .player (.cmd op) s = .fault (.noAccessRight 0x00) ∧
      portWrite .player (.opr r) s = .fault (.noAccessRight 0x10)) ∧
    ∀ (n : Nat) (s : State), n ∈ [0x03, 0x04, 0x05, 0x40] → portWrite .player (.other n) s = .fault (.noAccessRight n)

/-! ## ENC_CW -/

/-- R142, R145, R136: the two failures of `ENC_CW`, an operand outside its domain among them, and their order. -/
def Obligations.CwRejects : Prop :=
  ∀ (s : State) (o : EncCwOpr), s.opr = .record (.encCw o) →
    let cap := ((o.text.filterMap fun b => morseCode s.cfg (upper b)).map fun code => 2 * code.length).sum
    (s.cfg.textMax < o.text.length ∨ o.wpm.toNat = 0 ∨ 1200000 < o.wpm.toNat →
      exec .encCw s = .next { s with
        status := .validationError, result := 0, b71 := zeroB71, seqMode := .cw, seqBase := o.base, seqLen := 0, seqCursor := 0,
        seqRepeat := false, sym := [] }) ∧
    (o.text.length ≤ s.cfg.textMax → 1 ≤ o.wpm.toNat → o.wpm.toNat ≤ 1200000 → s.cfg.symCap < cap →
      exec .encCw s = .next { s with
        status := .allocationError, result := 0, b71 := zeroB71, seqMode := .cw, seqBase := o.base, seqLen := 0, seqCursor := 0,
        seqRepeat := false, sym := [] })

/-- R143, R147, R138, R132, R135: `ENC_CW` completes with the sequence of R147, of exactly the needed capacity. A duration that fits 32
bits is exact; of one that does not, only that it is above 0 is said (U3, log entry 5). -/
def Obligations.CwCompletes : Prop :=
  ∀ (s : State) (o : EncCwOpr), s.opr = .record (.encCw o) →
    let cap := ((o.text.filterMap fun b => morseCode s.cfg (upper b)).map fun code => 2 * code.length).sum
    (∀ code ∈ s.cfg.morse.toList, code ≠ []) → o.text.length ≤ s.cfg.textMax → 1 ≤ o.wpm.toNat → o.wpm.toNat ≤ 1200000 →
    cap ≤ s.cfg.symCap →
    ∃ S : List TxSymbol,
      exec .encCw s = .next { s with
        status := .ok, result := 0, b71 := zeroB71, seqMode := .cw, seqBase := o.base, seqLen := cap, seqCursor := 0,
        seqRepeat := false, sym := S } ∧
      S.length = cap ∧ (cwShape s.cfg (1200000 / o.wpm.toNat) o.text).length = cap ∧
      ∀ (k : Nat) (x : Draft), (cwShape s.cfg (1200000 / o.wpm.toNat) o.text)[k]? = some x →
        ∃ y : TxSymbol, S[k]? = some y ∧ y.freq = x.freq ∧ y.on = x.on ∧ 0 < y.dur.toNat ∧ (x.dur < 2 ^ 32 → y.dur.toNat = x.dur)

/-- R147: the symbols alternate strictly, with the durations of the rule, and their number is the needed capacity and even. The spec
derives R147 itself. -/
def Obligations.CwSequenceShape : Prop :=
  ∀ (cfg : Config) (dot : Nat) (text : Text), (∀ code ∈ cfg.morse.toList, code ≠ []) →
    cwSymbols cfg dot text = cwShape cfg dot text ∧
      (cwSymbols cfg dot text).length = ((text.filterMap fun b => morseCode cfg (upper b)).map fun code => 2 * code.length).sum ∧
      (cwSymbols cfg dot text).length % 2 = 0 ∧
      ∀ (k : Nat) (x : Draft), (cwSymbols cfg dot text)[k]? = some x →
        x.freq = 0 ∧ x.on = decide (k % 2 = 0) ∧ (k % 2 = 0 → x.dur = dot ∨ x.dur = 3 * dot) ∧
          (k % 2 = 1 → ∃ a b : Nat, a ≤ 1 ∧ x.dur = dot * (1 + 2 * a + 6 * b))

/-- R141, R146, R148, R149: which characters are encodable, and which entry of MORSE each reads; unsupported characters are transparent,
case is folded, leading spaces do nothing, and each later space adds six dots to the last symbol. -/
def Obligations.CwSpacesAndSkips : Prop :=
  (∀ (cfg : Config) (c : Byte),
    (0x41 ≤ c.toNat → c.toNat ≤ 0x5A → morseCode cfg c = cfg.morse[c.toNat - 0x41]?) ∧
      (0x30 ≤ c.toNat → c.toNat ≤ 0x39 → morseCode cfg c = cfg.morse[26 + (c.toNat - 0x30)]?) ∧
      (c.toNat < 0x30 ∨ (0x39 < c.toNat ∧ c.toNat < 0x41) ∨ 0x5A < c.toNat → morseCode cfg c = none) ∧
      (0x61 ≤ c.toNat → c.toNat ≤ 0x7A → (upper c).toNat + 0x20 = c.toNat) ∧ (c.toNat < 0x61 ∨ 0x7A < c.toNat → upper c = c)) ∧
  ∀ (cfg : Config) (dot : Nat) (u v : Text),
    (∀ c : Byte, upper c ≠ space → morseCode cfg (upper c) = none → cwSymbols cfg dot (u ++ c :: v) = cwSymbols cfg dot (u ++ v)) ∧
      cwSymbols cfg dot (upperText u) = cwSymbols cfg dot u ∧
      ((∀ b ∈ u, morseCode cfg (upper b) = none) → cwSymbols cfg dot (u ++ v) = cwSymbols cfg dot v) ∧
      cwSymbols cfg dot (u ++ [space]) = extend (6 * dot) (cwSymbols cfg dot u)

/-- R151: "E" yields exactly two symbols, one on and one off of dot length, and with the default table "PARIS " lasts 50 dots. The Morse
table is the spec's default from general knowledge (log entry 3). -/
def Obligations.CwParisTiming : Prop :=
  (∀ (cfg : Config) (dot : Nat), cfg.morse[4] = [MorseElem.dot] →
    cwSymbols cfg dot (ascii "E") = [{ freq := 0, dur := dot, on := true }, { freq := 0, dur := dot, on := false }]) ∧
    ∀ dot : Nat, ((cwSymbols defaultConfig dot (ascii "PARIS ")).map fun x => x.dur).sum = 50 * dot

/-! ## ENC_RTTY -/

/-- R168, R172: the failures of `ENC_RTTY`, an operand outside its domain among them, and their order. The floors of the two durations
are log entry 3 (R166, U7). -/
def Obligations.RttyRejects : Prop :=
  ∀ (s : State) (o : EncRttyOpr), s.opr = .record (.encRtty o) →
    let bitDur : Int := ((1000000 : Rat) / o.baudRate).floor
    let stopDur : Int := ((bitDur : Rat) * o.stopBits).floor
    let bad := s.cfg.textMax < o.text.length ∨ o.baudRate ≤ 0 ∨ o.stopBits ≤ 0 ∨ bitDur = 0 ∨ stopDur = 0 ∨ 2 ^ 32 - 1 < bitDur ∨
      2 ^ 32 - 1 < stopDur
    (bad →
      exec .encRtty s = .next { s with
        status := .validationError, result := 0, b71 := zeroB71, seqMode := .rtty, seqBase := o.base, seqLen := 0, seqCursor := 0,
        seqRepeat := false, sym := [] }) ∧
    (¬bad → s.cfg.symCap < 7 * (rttyCodes s.cfg .letters o.text).length →
      exec .encRtty s = .next { s with
        status := .allocationError, result := 0, b71 := zeroB71, seqMode := .rtty, seqBase := o.base, seqLen := 0, seqCursor := 0,
        seqRepeat := false, sym := [] })

/-- R166, R167, R169, R170, R172: `ENC_RTTY` completes with seven symbols for every code of the first pass. Which bit value is mark is
the spec's general knowledge (R169), and the floors of the durations and the place of the tones are the spec's choices (U7, U8; log
entry 3). -/
def Obligations.RttyCompletes : Prop :=
  ∀ (s : State) (o : EncRttyOpr), s.opr = .record (.encRtty o) →
    let bitDur : Int := ((1000000 : Rat) / o.baudRate).floor
    let stopDur : Int := ((bitDur : Rat) * o.stopBits).floor
    let h : Rat := (o.shiftHz.toNat : Rat) / 2
    let low : Rat := if o.centerOnCarrier = true then -h else 0
    let high : Rat := if o.centerOnCarrier = true then h else (o.shiftHz.toNat : Rat)
    let mark : Rat := if o.reverseShift = true then high else low
    let space : Rat := if o.reverseShift = true then low else high
    let codes := rttyCodes s.cfg .letters o.text
    o.text.length ≤ s.cfg.textMax → 0 < o.baudRate → 0 < o.stopBits → 1 ≤ bitDur → bitDur ≤ 2 ^ 32 - 1 → 1 ≤ stopDur →
    stopDur ≤ 2 ^ 32 - 1 → 7 * codes.length ≤ s.cfg.symCap →
    exec .encRtty s = .next { s with
      status := .ok, result := 0, b71 := zeroB71, seqMode := .rtty, seqBase := o.base, seqLen := 7 * codes.length, seqCursor := 0,
      seqRepeat := false,
      sym := codes.flatMap fun k =>
        [{ freq := space, dur := BitVec.ofInt 32 bitDur, on := true },
          { freq := if k.getLsbD 0 = true then mark else space, dur := BitVec.ofInt 32 bitDur, on := true },
          { freq := if k.getLsbD 1 = true then mark else space, dur := BitVec.ofInt 32 bitDur, on := true },
          { freq := if k.getLsbD 2 = true then mark else space, dur := BitVec.ofInt 32 bitDur, on := true },
          { freq := if k.getLsbD 3 = true then mark else space, dur := BitVec.ofInt 32 bitDur, on := true },
          { freq := if k.getLsbD 4 = true then mark else space, dur := BitVec.ofInt 32 bitDur, on := true },
          { freq := mark, dur := BitVec.ofInt 32 stopDur, on := true }] }

/-- R164: `classify`. -/
def Obligations.RttyClassify : Prop :=
  ∀ (cfg : Config) (b : Byte),
    (∀ k : Nat, cfg.ita2Letters[k]? = some (some (upper b)) → (∀ j : Nat, j < k → cfg.ita2Letters[j]? ≠ some (some (upper b))) →
      classify cfg b = some (BitVec.ofNat 5 k,
        if upper b = 0x20 ∨ upper b = 0x0D ∨ upper b = 0x0A then none else some .letters)) ∧
    (∀ k : Nat, (∀ j : Nat, cfg.ita2Letters[j]? ≠ some (some (upper b))) → cfg.ita2Figures[k]? = some (some (upper b)) →
      (∀ j : Nat, j < k → cfg.ita2Figures[j]? ≠ some (some (upper b))) → classify cfg b = some (BitVec.ofNat 5 k, some .figures)) ∧
    ((∀ j : Nat, cfg.ita2Letters[j]? ≠ some (some (upper b))) → (∀ j : Nat, cfg.ita2Figures[j]? ≠ some (some (upper b))) → classify cfg b = none)

/-- R161, R165, R171, R173: encoding is the inverse lookup. A receiver that starts in LETTERS and tracks the shift codes prints the
encodable characters of the text, case-folded, and nothing else; the code list has at most two codes for each of them. A shift code is
sent exactly where a character needs the other state, a character that needs none keeps the state, and an unencodable one changes
nothing. -/
def Obligations.RttyCodesPrintTheText : Prop :=
  (∀ (cfg : Config) (shift : Shift) (b : Byte) (rest : Text),
    rttyCodes cfg shift [] = [] ∧ (classify cfg b = none → rttyCodes cfg shift (b :: rest) = rttyCodes cfg shift rest) ∧
      (∀ k, classify cfg b = some (k, none) ∨ classify cfg b = some (k, some shift) →
        rttyCodes cfg shift (b :: rest) = k :: rttyCodes cfg shift rest) ∧
      (∀ k, classify cfg b = some (k, some .figures) → shift = .letters →
        rttyCodes cfg shift (b :: rest) = 0x1B :: k :: rttyCodes cfg .figures rest) ∧
      ∀ k, classify cfg b = some (k, some .letters) → shift = .figures →
        rttyCodes cfg shift (b :: rest) = 0x1F :: k :: rttyCodes cfg .letters rest) ∧
  ∀ (cfg : Config) (text : Text), ita2Consistent cfg →
    rttyPrint cfg .letters (rttyCodes cfg .letters text) = (text.filter fun b => (classify cfg b).isSome).map upper ∧
      (rttyCodes cfg .letters text).length ≤ 2 * (text.filter fun b => (classify cfg b).isSome).length

/-- R175, R361: the laws of an RTTY sequence: a multiple of 7 symbols, every one with the carrier on and at one of the two tones, and
the on-air time; a single character of the LETTERS table gives 7 symbols, and one followed by a FIGURES-only character gives 21. The
spec derives both rules; the tones and the floors of the durations are log entry 3. -/
def Obligations.RttySequenceLaws : Prop :=
  ∀ (s t : State) (o : EncRttyOpr), s.opr = .record (.encRtty o) → exec .encRtty s = .next t → t.status = .ok →
    t.sym.length % 7 = 0 ∧ t.sym.length = t.seqLen ∧
      (∀ y ∈ t.sym, y.on = true ∧ (y.freq = (rttyTones o).1 ∨ y.freq = (rttyTones o).2)) ∧
      onAirTime t.sym = t.sym.length / 7 *
        (6 * rttyBitDur o.baudRate + rttyStopDur (rttyBitDur o.baudRate) o.stopBits) ∧
      (∀ b k need, o.text = [b] → classify s.cfg b = some (k, need) → need ≠ some .figures → t.seqLen = 7) ∧
      ∀ b c k j need, o.text = [b, c] → classify s.cfg b = some (k, need) → need ≠ some .figures →
        classify s.cfg c = some (j, some .figures) → t.seqLen = 21

/-! ## ENC_WSPR -/

/-- R192, R216: a command that fails one of the clauses (a) to (f) completes with VALIDATION_ERROR; a valid one with too small a symbol
memory completes with ALLOCATION_ERROR. -/
def Obligations.WsprRejects : Prop :=
  ∀ (s : State) (o : EncWsprOpr), s.opr = .record (.encWspr o) →
    let clauses := 2 ≤ o.callsign.val.length ∧ o.callsign.val.length ≤ 6 ∧
      (∀ c ∈ o.callsign.val, (0x30 ≤ c.toNat ∧ c.toNat ≤ 0x39) ∨ (0x41 ≤ c.toNat ∧ c.toNat ≤ 0x5A) ∨
        (0x61 ≤ c.toNat ∧ c.toNat ≤ 0x7A) ∨ c.toNat = 0x2F) ∧
      (∃ g0 g1 g2 g3 : Byte, o.grid.val = [g0, g1, g2, g3] ∧ 0x41 ≤ g0.toNat ∧ g0.toNat ≤ 0x52 ∧ 0x41 ≤ g1.toNat ∧ g1.toNat ≤ 0x52 ∧
        0x30 ≤ g2.toNat ∧ g2.toNat ≤ 0x39 ∧ 0x30 ≤ g3.toNat ∧ g3.toNat ≤ 0x39) ∧
      o.powerDbm.toInt ∈ ([0, 3, 7, 10, 13, 17, 20, 23, 27, 30, 33, 37, 40, 43, 47, 50, 53, 57, 60] : List Int)
    (wsprValid o = true ↔ clauses) ∧
    (¬clauses →
      exec .encWspr s = .next { s with
        status := .validationError, result := 0, b71 := zeroB71, seqMode := .wspr, seqBase := o.base, seqLen := 0, seqCursor := 0,
        seqRepeat := false, sym := [] }) ∧
    (clauses → s.cfg.symCap < 162 →
      exec .encWspr s = .next { s with
        status := .allocationError, result := 0, b71 := zeroB71, seqMode := .wspr, seqBase := o.base, seqLen := 0, seqCursor := 0,
        seqRepeat := false, sym := [] })

/-- R191, R195, R210, R212, R213, R218, R361: on a valid and representable input `ENC_WSPR` completes with exactly 162 symbols, the tone
indices being twice the interleaved data bit plus the sync bit, and the frame lasts 110592054 microseconds. The coder's conventions
(R205) are the spec's general knowledge (log entry 3); the sync vector is the configuration's. -/
def Obligations.WsprCompletes : Prop :=
  ∀ (s : State) (o : EncWsprOpr), s.opr = .record (.encWspr o) →
    let c6 := wsprC6 o.callsign.val
    let ilv := wsprInterleave (wsprConv (wsprPack (wsprN c6) (wsprM o.grid.val o.powerDbm.toInt)))
    wsprValid o = true → 162 ≤ s.cfg.symCap → wsprRepresentable c6 = true →
    ∃ S : List TxSymbol,
      exec .encWspr s = .next { s with
        status := .ok, result := 0, b71 := zeroB71, seqMode := .wspr, seqBase := o.base, seqLen := 162, seqCursor := 0,
        seqRepeat := false, sym := S } ∧
      S.length = 162 ∧ onAirTime S = 110592054 ∧
      ∀ k, (h : k < 162) →
        let tone := 2 * ilv[k].toNat + (s.cfg.syncVector[k]).toNat
        tone ≤ 3 ∧ S[k]? = some { freq := (tone : Rat) * (14648 / 10000), dur := 682667, on := true }

/-- R196 to R200: the canonical form; which forms are representable and the code of a character, in numbers; the mixed-radix value of a
representable form with its bound, and no two forms share a value. The canonical form of the first clause is the resolution of conflict C4,
"The spec reads positions as counted from 1" (R196, log entry 11). -/
def Obligations.WsprCallsignPacking : Prop :=
  (∀ call : Text, 2 ≤ call.length → call.length ≤ 6 →
    ((isLetter (call.getD 0 0) && isDigit (call.getD 1 0)) = true →
      wsprC6 call = 0x20 :: call ++ List.replicate (5 - call.length) 0x20) ∧
    ((isLetter (call.getD 0 0) && isDigit (call.getD 1 0)) = false →
      wsprC6 call = call ++ List.replicate (6 - call.length) 0x20)) ∧
    (∀ c0 c1 c2 c3 c4 c5 : Byte,
      let digit (c : Byte) : Prop := 0x30 ≤ c.toNat ∧ c.toNat ≤ 0x39
      let letter (c : Byte) : Prop := 0x41 ≤ c.toNat ∧ c.toNat ≤ 0x5A
      wsprRepresentable [c0, c1, c2, c3, c4, c5] = true ↔
        (c0.toNat = 0x20 ∨ digit c0 ∨ letter c0) ∧ (digit c1 ∨ letter c1) ∧ digit c2 ∧ (letter c3 ∨ c3.toNat = 0x20) ∧
          (letter c4 ∨ c4.toNat = 0x20) ∧ (letter c5 ∨ c5.toNat = 0x20)) ∧
    (∀ c6 : Text, c6.length ≠ 6 → wsprRepresentable c6 = false) ∧
    (∀ c : Byte, (0x30 ≤ c.toNat → c.toNat ≤ 0x39 → wsprCode c + 0x30 = c.toNat) ∧
      (0x41 ≤ c.toNat → c.toNat ≤ 0x5A → wsprCode c + 0x41 = c.toNat + 10) ∧ (c.toNat = 0x20 → wsprCode c = 36)) ∧
    (∀ c0 c1 c2 c3 c4 c5 : Byte, wsprRepresentable [c0, c1, c2, c3, c4, c5] = true →
      wsprN [c0, c1, c2, c3, c4, c5] =
        ((((wsprCode c0 * 36 + wsprCode c1) * 10 + wsprCode c2) * 27 + (wsprCode c3 - 10)) * 27 + (wsprCode c4 - 10)) * 27 +
          (wsprCode c5 - 10)) ∧
    (∀ a : Text, wsprRepresentable a = true → wsprN a ≤ 262177559) ∧
    ∀ a b : Text, wsprRepresentable a = true → wsprRepresentable b = true → wsprN a = wsprN b → a = b

/-- R201, R202: the grid and power value of a validated command, with its bounds and its two parts. Where R217 prints another value for the
grid RR99, R202 is followed (log entry 16). -/
def Obligations.WsprGridPowerPacking : Prop :=
  ∀ (o : EncWsprOpr) (g0 g1 g2 g3 : Byte), wsprValid o = true → o.grid.val = [g0, g1, g2, g3] →
    let M := wsprM o.grid.val o.powerDbm.toInt
    (M : Int) = ((179 - 10 * ((g0.toNat : Int) - 0x41) - ((g2.toNat : Int) - 0x30)) * 180 + 10 * ((g1.toNat : Int) - 0x41) +
        ((g3.toNat : Int) - 0x30)) * 128 + o.powerDbm.toInt + 64 ∧
      64 ≤ M ∧ M ≤ 4147196 ∧ ((M % 128 : Nat) : Int) = o.powerDbm.toInt + 64

/-- R203: the eleven bytes of the packed buffer. The zero padding is the spec's general knowledge (log entry 3). -/
def Obligations.WsprPackedBuffer : Prop :=
  ∀ N M : Nat, N < 2 ^ 28 → M < 2 ^ 22 →
    (wsprPack N M).toList.map (fun b => b.toNat) =
      [N / 2 ^ 20, N / 2 ^ 12 % 256, N / 2 ^ 4 % 256, N % 16 * 16 + M / 2 ^ 18, M / 2 ^ 10 % 256, M / 2 ^ 2 % 256, M % 4 * 64, 0, 0, 0, 0]

/-- R207, R206: the convolutional code in closed form, its impulse response, its 31 tail bits and its linearity. The coder's conventions
(R205) are the spec's general knowledge (log entry 3). -/
def Obligations.ConvolutionalCode : Prop :=
  (∀ pk : Buf 11, (wsprConv pk).length = 162 ∧
    ∀ t, t < 81 → (wsprConv pk)[2 * t]? = some (convTap 0xF2D05351 (wsprInputBits pk) t) ∧
      (wsprConv pk)[2 * t + 1]? = some (convTap 0xE4613C47 (wsprInputBits pk) t)) ∧
    (∀ d, d < 81 →
      (wsprConv (wsprPack (2 ^ 27) 0))[2 * d]? = some ((0xF2D05351 : BitVec 32).getLsbD d) ∧
        (wsprConv (wsprPack (2 ^ 27) 0))[2 * d + 1]? = some ((0xE4613C47 : BitVec 32).getLsbD d)) ∧
    (∀ N M k : Nat, 50 ≤ k → bufBit (wsprPack N M) k = false) ∧
    ∀ A B : Buf 11, wsprConv (Vector.zipWith (fun a b => a ^^^ b) A B) = List.zipWith (fun a b => a ^^ b) (wsprConv A) (wsprConv B)

/-- R208, R209: the interleaver puts the `p`-th convolved bit at the `p`-th bit-reversed index below 162; `bit_reverse8` mirrors the
eight bits; 162 indices qualify, so every bit is used and every position written. -/
def Obligations.InterleaverPermutes : Prop :=
  (∀ j, j < 256 → bitReverse8 j < 256 ∧ ∀ i, i < 8 → (bitReverse8 j).testBit i = j.testBit (7 - i)) ∧
    ((List.range 256).filter fun j => decide (bitReverse8 j < 162)).length = 162 ∧
    ∀ (conv : List Bool) (j : Nat), conv.length = 162 → j < 256 → bitReverse8 j < 162 →
      (wsprInterleave conv)[bitReverse8 j]? = conv[((List.range j).filter fun j' => decide (bitReverse8 j' < 162)).length]?

/-! ## PACK_BITS and UNPACK_BITS -/

/-- R282, R67: `PACK_BITS`. -/
def Obligations.PackBitsResult : Prop :=
  ∀ (s : State) (o : PackBitsOpr), s.opr = .record (.packBits o) →
    let illegal := o.width.toNat = 0 ∨ 64 < o.width.toNat ∨ 80 < o.off.toNat + o.width.toNat
    (illegal → exec .packBits s = .next { s with status := .validationError, result := 0, b71 := zeroB71, frame := zeroFrame }) ∧
    (¬illegal → ∃ F : Buf 10, exec .packBits s = .next { s with status := .ok, result := 0, b71 := zeroB71, frame := F } ∧
      ∀ k, k < 80 → bufBit F k =
        if o.off.toNat ≤ k ∧ k < o.off.toNat + o.width.toNat then o.value.toNat.testBit (o.off.toNat + o.width.toNat - 1 - k)
        else bufBit s.frame k)

/-- R283, R66: `UNPACK_BITS`. -/
def Obligations.UnpackBitsResult : Prop :=
  ∀ (s : State) (o : UnpackBitsOpr), s.opr = .record (.unpackBits o) →
    let illegal := o.width.toNat = 0 ∨ 64 < o.width.toNat ∨ 80 < o.off.toNat + o.width.toNat
    (illegal → exec .unpackBits s = .next { s with status := .validationError, result := 0, b71 := zeroB71 }) ∧
    (¬illegal → ∃ v : BitVec 64, exec .unpackBits s = .next { s with status := .ok, result := v, b71 := zeroB71 } ∧
      v.toNat < 2 ^ o.width.toNat ∧
      ∀ k, k < o.width.toNat → v.toNat.testBit (o.width.toNat - 1 - k) = bufBit s.frame (o.off.toNat + k))

/-- R284: the round-trip law, through the two commands as the host issues them. -/
def Obligations.PackUnpackRoundTrip : Prop :=
  ∀ (s : State) (off width : BitVec 8) (value : BitVec 64), 1 ≤ width.toNat → width.toNat ≤ 64 → off.toNat + width.toNat ≤ 80 →
    value.toNat < 2 ^ width.toNat →
    ∃ u : State,
      runActions (issue (.packBits { off := off, width := width, value := value }) 0x10 ++
        issue (.unpackBits { off := off, width := width }) 0x11) s = .next u ∧
      u.status = .ok ∧ u.result = value ∧
      ∀ k, k < 80 → (k < off.toNat ∨ off.toNat + width.toNat ≤ k) → bufBit u.frame k = bufBit s.frame k

/-! ## The FTx field encoders -/

/-- R105, R235 to R237, R242: the domain of a `CallCell`. -/
def Obligations.CallCellDomain : Prop :=
  ∀ cell : CallCell, callCellOk cell = true ↔
    (∃ t, cell = .std t ∧ 1 ≤ t.length ∧ t.length ≤ 6) ∨ cell = .cq ∨ (∃ v, cell = .cqMod (.num v) ∧ v.toNat ≤ 999) ∨
      (∃ t, cell = .cqMod (.lets t) ∧ 1 ≤ t.length ∧ t.length ≤ 4 ∧ ∀ c ∈ t, 0x41 ≤ c.toNat ∧ c.toNat ≤ 0x5A) ∨
      cell = .de ∨ cell = .qrz ∨ ∃ h, cell = .hash22 h ∧ h.toNat ≤ 4194303

/-- R234 to R238, R240, R242: `FE_C28` on a cell in its domain, with the radix 36 of cell 1 (C2, log entry 11). The cell alphabets
(R232) and the right alignment of the CQ letters (R236) are the spec's general knowledge (log entry 3). -/
def Obligations.FeC28Result : Prop :=
  ∀ (s : State) (o : FeC28Opr), s.opr = .record (.feC28 o) →
    let cell := o.cell
    callCellOk cell = true → s.cfg.c28Radix1 = 36 →
    ∃ n : Nat, exec .feC28 s = .next { s with status := .ok, result := BitVec.ofNat 64 n, b71 := zeroB71 } ∧ n < 2 ^ 28 ∧
      (cell = .de → n = 0) ∧ (cell = .qrz → n = 1) ∧ (cell = .cq → n = 2) ∧
      (∀ v, cell = .cqMod (.num v) → n = 3 + v.toNat) ∧
      (∀ t, cell = .cqMod (.lets t) → n = 1003 + t.foldl (fun m c => m * 27 + (c.toNat - 0x41 + 1)) 0) ∧
      (∀ h, cell = .hash22 h → n = 2063592 + h.toNat) ∧
      ∀ t c0 c1 c2 c3 c4 c5, cell = .std t → stdCanonical t = [c0, c1, c2, c3, c4, c5] →
        n = 6257896 + (((((cellOrZero a37 c0 * 36 + cellOrZero a36 c1) * 10 + cellOrZero a10 c2) * 27 + cellOrZero a27 c3) * 27 +
          cellOrZero a27 c4) * 27 + cellOrZero a27 c5)

/-- R239: the canonical form of a standard callsign. -/
def Obligations.StandardCallsignForm : Prop :=
  ∀ t : Text, 1 ≤ t.length → t.length ≤ 6 →
    (stdCanonical t).length = 6 ∧
      (∀ p, p < t.length → p ≤ 2 → isDigit (t.getD p 0) = true →
        (∀ q, p < q → q < t.length → q ≤ 2 → isDigit (t.getD q 0) = false) →
        stdCanonical t = ((List.replicate (2 - p) 0x20 ++ t).take 6) ++ List.replicate (6 - ((2 - p) + t.length)) 0x20) ∧
      ((∀ q, q < t.length → q ≤ 2 → isDigit (t.getD q 0) = false) → stdCanonical t = t ++ List.replicate (6 - t.length) 0x20)

/-- R241: the seven sub-ranges, and no two distinct canonical forms collide. The alphabets and the alignment of the CQ letters are log
entry 3, the radix 36 is log entry 11; the spec derives R241 itself. -/
def Obligations.C28RangesAndInjectivity : Prop :=
  (∀ (cfg : Config) (cell : CallCell), cfg.c28Radix1 = 36 → callCellOk cell = true →
    match cell with
    | .de => c28 cfg cell = 0
    | .qrz => c28 cfg cell = 1
    | .cq => c28 cfg cell = 2
    | .cqMod (.num _) => 3 ≤ c28 cfg cell ∧ c28 cfg cell ≤ 1002
    | .cqMod (.lets _) => 1004 ≤ c28 cfg cell ∧ c28 cfg cell ≤ 532443
    | .hash22 _ => 2063592 ≤ c28 cfg cell ∧ c28 cfg cell ≤ 6257895
    | .std _ => 6257896 ≤ c28 cfg cell ∧ c28 cfg cell ≤ 268435455
    | _ => False) ∧
    (∀ c6 : Text, stdValue 36 c6 ≤ 262177559) ∧
    ∀ a b : Text, canonicalCells a = true → canonicalCells b = true → stdValue 36 a = stdValue 36 b → a = b

/-- R243 to R245: `FE_G15`. -/
def Obligations.FeG15Result : Prop :=
  ∀ (s : State) (o : FeG15Opr), s.opr = .record (.feG15 o) →
    let cell := o.cell
    let valid (g : Text) (c0 c1 c2 c3 : Byte) := g = [c0, c1, c2, c3] ∧ 0x41 ≤ c0.toNat ∧ c0.toNat ≤ 0x52 ∧ 0x41 ≤ c1.toNat ∧
      c1.toNat ≤ 0x52 ∧ 0x30 ≤ c2.toNat ∧ c2.toNat ≤ 0x39 ∧ 0x30 ≤ c3.toNat ∧ c3.toNat ≤ 0x39
    (∀ k, cell = .other k → exec .feG15 s = .next { s with status := .validationError, result := 0, b71 := zeroB71 }) ∧
    ((∀ k, cell ≠ .other k) →
      ∃ n : Nat, exec .feG15 s = .next { s with status := .ok, result := BitVec.ofNat 64 n, b71 := zeroB71 } ∧ n < 2 ^ 15 ∧
        (∀ g c0 c1 c2 c3, cell = .grid g → valid g.val c0 c1 c2 c3 →
          n = (c0.toNat - 0x41) * 1800 + (c1.toNat - 0x41) * 100 + (c2.toNat - 0x30) * 10 + (c3.toNat - 0x30)) ∧
        (∀ g, cell = .grid g → (∀ c0 c1 c2 c3, ¬valid g.val c0 c1 c2 c3) → n = 0) ∧
        (∀ r, cell = .report r → (n : Int) = (32400 + r.toInt + 35) % 2 ^ 15) ∧
        (cell = .blank → n = 32401) ∧ (cell = .rrr → n = 32402) ∧ (cell = .rr73 → n = 32403) ∧ (cell = .s73 → n = 32404))

/-- R246, R247: `FE_G25`. -/
def Obligations.FeG25Result : Prop :=
  ∀ (s : State) (o : FeG25Opr), s.opr = .record (.feG25 o) →
    let g := o.grid6.val
    let valid (a b c d e f : Byte) := g = [a, b, c, d, e, f] ∧ 0x41 ≤ a.toNat ∧ a.toNat ≤ 0x52 ∧ 0x41 ≤ b.toNat ∧ b.toNat ≤ 0x52 ∧
      0x30 ≤ c.toNat ∧ c.toNat ≤ 0x39 ∧ 0x30 ≤ d.toNat ∧ d.toNat ≤ 0x39 ∧ 0x41 ≤ e.toNat ∧ e.toNat ≤ 0x58 ∧ 0x41 ≤ f.toNat ∧
      f.toNat ≤ 0x58
    ∃ n : Nat, exec .feG25 s = .next { s with status := .ok, result := BitVec.ofNat 64 n, b71 := zeroB71 } ∧ n ≤ 18662399 ∧
      (∀ a b c d e f, valid a b c d e f →
        n = (((((a.toNat - 0x41) * 18 + (b.toNat - 0x41)) * 10 + (c.toNat - 0x30)) * 10 + (d.toNat - 0x30)) * 24 + (e.toNat - 0x41)) * 24 +
          (f.toNat - 0x41)) ∧
      ((∀ a b c d e f, ¬valid a b c d e f) → n = 0)

/-- R248, R249: `FE_C58` on a callsign of the alphabet. -/
def Obligations.FeC58Result : Prop :=
  ∀ (s : State) (o : FeC58Opr), s.opr = .record (.feC58 o) →
    let call := o.call
    let n := (padRight 11 (upperText call)).foldl (fun m c => m * 38 + (idx a38 c).getD 0) 0
    call.length ≤ 11 → allIn a38 (upperText call) = true →
    exec .feC58 s = .next { s with status := .ok, result := BitVec.ofNat 64 n, b71 := zeroB71 } ∧ n < 38 ^ 11

/-- R251 to R253: `FE_F71` on a text of the alphabet, with the radix of the configuration: B71 holds the mixed-radix integer, and its
most significant bit is 0. F71_RADIX is a parameter (R250, C10, log entry 11). -/
def Obligations.FeF71Result : Prop :=
  ∀ (s : State) (o : FeF71Opr), s.opr = .record (.feF71 o) →
    let text := o.text
    let r := s.cfg.f71Radix
    text.length ≤ 13 → allIn a43 text = true → 42 ≤ r → r ^ 13 < 2 ^ 71 →
    ∃ B : Buf 9, exec .feF71 s = .next { s with status := .ok, result := 0, b71 := B } ∧
      beValue B.toList = text.foldl (fun m c => m * r + (idx a43 c).getD 0) 0 ∧ bufBit B 0 = false

/-- R254 to R256: `FE_T71` on a hexadecimal string: B71 holds its value, a digit of either case counting 0 to 15, the leading digit of
eighteen clamped to 7, and its most significant bit is 0. -/
def Obligations.FeT71Result : Prop :=
  ∀ (s : State) (o : FeT71Opr), s.opr = .record (.feT71 o) →
    let hex := o.hex
    let digit (c : Byte) : Nat :=
      if 0x30 ≤ c.toNat ∧ c.toNat ≤ 0x39 then c.toNat - 0x30
      else if 0x41 ≤ c.toNat ∧ c.toNat ≤ 0x46 then c.toNat - 0x41 + 10
      else if 0x61 ≤ c.toNat ∧ c.toNat ≤ 0x66 then c.toNat - 0x61 + 10
      else 0
    hex.length ≤ 18 →
    (∀ c ∈ hex, (0x30 ≤ c.toNat ∧ c.toNat ≤ 0x39) ∨ (0x41 ≤ c.toNat ∧ c.toNat ≤ 0x46) ∨ (0x61 ≤ c.toNat ∧ c.toNat ≤ 0x66)) →
    ∃ B : Buf 9, exec .feT71 s = .next { s with status := .ok, result := 0, b71 := B } ∧ bufBit B 0 = false ∧
      (hex.length < 18 → beValue B.toList = hex.foldl (fun m c => m * 16 + digit c) 0) ∧
      ∀ c rest, hex = c :: rest → hex.length = 18 → beValue B.toList = rest.foldl (fun m c => m * 16 + digit c) (min (digit c) 7)

/-- R257 to R259: `FE_HASH` at its three widths: the top bits of the 64-bit product; the narrower hashes are the top bits of the 22-bit
one. The word size is the spec's general knowledge (R258, log entry 3). -/
def Obligations.FeHashResult : Prop :=
  (∀ (s : State) (o : FeHashOpr), s.opr = .record (.feHash o) →
    let m := o.width.toNat
    let n58 := (padRight 11 (upperText o.call)).foldl (fun m c => m * 38 + (idx a38 c).getD 0) 0
    m = 10 ∨ m = 12 ∨ m = 22 → o.call.length ≤ 11 → allIn a38 (upperText o.call) = true →
    exec .feHash s = .next { s with
      status := .ok, result := BitVec.ofNat 64 (n58 * 47055833459 % 2 ^ 64 / 2 ^ (64 - m)), b71 := zeroB71 }) ∧
    ∀ (call : Text) (h : Nat), callHash call 22 = some h →
      h < 2 ^ 22 ∧ callHash call 12 = some (h / 2 ^ 10) ∧ callHash call 10 = some (h / 2 ^ 12)

/-- R261, R262, R264: `FE_S7` and `FE_STATE`: the case-folded exact match in the table of the configuration, and the sentinels. The
offset of a state is a parameter (log entry 3). -/
def Obligations.LookupResults : Prop :=
  (∀ (s : State) (o : FeS7Opr), s.opr = .record (.feS7 o) →
    ∃ v : Int, exec .feS7 s = .next { s with status := .ok, result := BitVec.ofInt 64 v, b71 := zeroB71 } ∧
      (∀ k : Nat, s.cfg.arrlSections.toList.Nodup → s.cfg.arrlSections[k]? = some (upperText o.sec.val) → v = k) ∧
      (upperText o.sec.val ∉ s.cfg.arrlSections.toList → v = -1)) ∧
    ∀ (s : State) (o : FeStateOpr), s.opr = .record (.feState o) →
      ∃ n : Nat, exec .feState s = .next { s with status := .ok, result := BitVec.ofNat 64 n, b71 := zeroB71 } ∧
        (∀ k : Nat, s.cfg.rttyStates.toList.Nodup → s.cfg.rttyStates[k]? = some (upperText o.state.val) → n = s.cfg.s13StateOffset + k) ∧
        (upperText o.state.val ∉ s.cfg.rttyStates.toList → n = 0)

/-- R266 to R270: the five small encoders. The values of r2 are the spec's general knowledge (R266, log entry 3). -/
def Obligations.SmallEncoderResults : Prop :=
  (∀ (s : State) (o : FeR2Opr), s.opr = .record (.feR2 o) →
    match o.word with
    | .blank => exec .feR2 s = .next { s with status := .ok, result := 0, b71 := zeroB71 }
    | .rrr => exec .feR2 s = .next { s with status := .ok, result := 1, b71 := zeroB71 }
    | .rr73 => exec .feR2 s = .next { s with status := .ok, result := 2, b71 := zeroB71 }
    | .s73 => exec .feR2 s = .next { s with status := .ok, result := 3, b71 := zeroB71 }
    | .other _ => exec .feR2 s = .next { s with status := .validationError, result := 0, b71 := zeroB71 }) ∧
    (∀ (s : State) (o : FeR3Opr), s.opr = .record (.feR3 o) →
      ∃ n : Nat, exec .feR3 s = .next { s with status := .ok, result := BitVec.ofNat 64 n, b71 := zeroB71 } ∧
        (2 ≤ o.rst.toNat → o.rst.toNat ≤ 9 → n + 2 = o.rst.toNat) ∧ (o.rst.toNat < 2 ∨ 9 < o.rst.toNat → n = 0)) ∧
    (∀ (s : State) (o : FeR5Opr), s.opr = .record (.feR5 o) →
      ∃ n : Nat, exec .feR5 s = .next { s with status := .ok, result := BitVec.ofNat 64 n, b71 := zeroB71 } ∧ n ≤ 31 ∧
        (n : Int) = (max (-30) (min 32 o.report.toInt) + 30) / 2) ∧
    (∀ (s : State) (o : FeK3Opr), s.opr = .record (.feK3 o) →
      ∃ n : Nat, exec .feK3 s = .next { s with status := .ok, result := BitVec.ofNat 64 n, b71 := zeroB71 } ∧
        (0x41 ≤ o.cls.toNat → o.cls.toNat ≤ 0x46 → n + 0x41 = o.cls.toNat) ∧ (o.cls.toNat < 0x41 ∨ 0x46 < o.cls.toNat → n = 0)) ∧
    ∀ (s : State) (o : FeS11Opr), s.opr = .record (.feS11 o) →
      exec .feS11 s = .next { s with status := .ok, result := BitVec.ofNat 64 (o.serial.toNat % 2048), b71 := zeroB71 }

/-! ## The FTx payload packers -/

/-- R96, R134, R133, R242, R245, R249, R252, R255, R259, R266, R282, R283, R298, R322: an operand outside its domain completes with
VALIDATION_ERROR, and the failure values of the family are all it leaves: for every operation whose record admits such a value, but for
the speed of `ENC_CW`, the rates of `ENC_RTTY` and the message of `ENC_WSPR`, which CwRejects, RttyRejects and WsprRejects have. -/
def Obligations.DomainErrors : Prop :=
  let failed (s : State) : State := { s with status := .validationError, result := 0, b71 := zeroB71 }
  let noFrame (s : State) : State := { s with status := .validationError, result := 0, b71 := zeroB71, frame := zeroFrame }
  let emptied (m : SeqMode) (base : BitVec 32) (s : State) : State :=
    { s with
      status := .validationError, result := 0, b71 := zeroB71, seqMode := m, seqBase := base, seqLen := 0, seqCursor := 0,
      seqRepeat := false, sym := [] }
  (∀ (s : State) (o : EncCwOpr), s.opr = .record (.encCw o) →
    s.cfg.textMax < o.text.length → exec .encCw s = .next (emptied .cw o.base s)) ∧
  (∀ (s : State) (o : EncRttyOpr), s.opr = .record (.encRtty o) →
    s.cfg.textMax < o.text.length → exec .encRtty s = .next (emptied .rtty o.base s)) ∧
  (∀ (s : State) (o : PackBitsOpr), s.opr = .record (.packBits o) →
    o.width.toNat = 0 ∨ 64 < o.width.toNat ∨ 80 < o.off.toNat + o.width.toNat → exec .packBits s = .next (noFrame s)) ∧
  (∀ (s : State) (o : UnpackBitsOpr), s.opr = .record (.unpackBits o) →
    o.width.toNat = 0 ∨ 64 < o.width.toNat ∨ 80 < o.off.toNat + o.width.toNat → exec .unpackBits s = .next (failed s)) ∧
  (∀ (s : State) (o : FeC28Opr), s.opr = .record (.feC28 o) →
    callCellOk o.cell = false → exec .feC28 s = .next (failed s)) ∧
  (∀ (s : State) (o : FeG15Opr), s.opr = .record (.feG15 o) →
    (∃ k, o.cell = .other k) → exec .feG15 s = .next (failed s)) ∧
  (∀ (s : State) (o : FeC58Opr), s.opr = .record (.feC58 o) →
    11 < o.call.length → exec .feC58 s = .next (failed s)) ∧
  (∀ (s : State) (o : FeF71Opr), s.opr = .record (.feF71 o) →
    13 < o.text.length → exec .feF71 s = .next (failed s)) ∧
  (∀ (s : State) (o : FeT71Opr), s.opr = .record (.feT71 o) →
    18 < o.hex.length → exec .feT71 s = .next (failed s)) ∧
  (∀ (s : State) (o : FeHashOpr), s.opr = .record (.feHash o) →
    (o.width.toNat ≠ 10 ∧ o.width.toNat ≠ 12 ∧ o.width.toNat ≠ 22) ∨ 11 < o.call.length → exec .feHash s = .next (failed s)) ∧
  (∀ (s : State) (o : FeR2Opr), s.opr = .record (.feR2 o) →
    (∃ k, o.word = .other k) → exec .feR2 s = .next (failed s)) ∧
  (∀ (s : State) (o : FtxFreeTextOpr), s.opr = .record (.ftxFreeText o) →
    13 < o.text.length → exec .ftxFreeText s = .next (noFrame s)) ∧
  (∀ (s : State) (o : FtxTelemetryOpr), s.opr = .record (.ftxTelemetry o) →
    18 < o.hex.length → exec .ftxTelemetry s = .next (noFrame s)) ∧
  (∀ (s : State) (o : FtxDxpedOpr), s.opr = .record (.ftxDxped o) →
    callCellOk o.callA = false ∨ callCellOk o.callB = false ∨ 11 < o.dxCall.length → exec .ftxDxped s = .next (noFrame s)) ∧
  (∀ (s : State) (o : FtxFieldDayOpr), s.opr = .record (.ftxFieldDay o) →
    callCellOk o.callTo = false ∨ callCellOk o.callDe = false ∨ o.ntx.toNat = 0 ∨ 32 < o.ntx.toNat ∨
      upperText o.sec.val ∉ s.cfg.arrlSections.toList → exec .ftxFieldDay s = .next (noFrame s)) ∧
  (∀ (s : State) (o : FtxStandardOpr), s.opr = .record (.ftxStandard o) →
    callCellOk o.callTo = false ∨ callCellOk o.callDe = false ∨ (∃ k, o.g15 = .other k) → exec .ftxStandard s = .next (noFrame s)) ∧
  (∀ (s : State) (o : FtxEuVhf2Opr), s.opr = .record (.ftxEuVhf2 o) →
    callCellOk o.callTo = false ∨ callCellOk o.callDe = false ∨ (∃ k, o.g15 = .other k) → exec .ftxEuVhf2 s = .next (noFrame s)) ∧
  (∀ (s : State) (o : FtxRttyRuOpr), s.opr = .record (.ftxRttyRu o) →
    callCellOk o.callTo = false ∨ callCellOk o.callDe = false ∨ (∃ k, o.s13 = .other k) → exec .ftxRttyRu s = .next (noFrame s)) ∧
  (∀ (s : State) (o : FtxNonstdOpr), s.opr = .record (.ftxNonstd o) →
    11 < o.hashCall.length ∨ 11 < o.fullCall.length ∨ (∃ k, o.word = .other k) → exec .ftxNonstd s = .next (noFrame s)) ∧
  (∀ (s : State) (o : FtxEuVhf5Opr), s.opr = .record (.ftxEuVhf5 o) →
    11 < o.callTo.length ∨ 11 < o.callDe.length → exec .ftxEuVhf5 s = .next (noFrame s))

/-- R300, R115: the default layouts, number by number, and that they meet R286. They are the spec's general knowledge (log entry 3). -/
def Obligations.DefaultLayouts : Prop :=
  defaultFtxLayout.wf = true ∧
    defaultFtxLayout.freeText = { f71 := 0, n3 := 0 } ∧
    defaultFtxLayout.dxped = { c28a := 0, c28b := 28, h10 := 56, r5 := 66, n3 := 1 } ∧
    defaultFtxLayout.fieldDay = { c28To := 0, c28De := 28, r1 := 56, n4 := 57, k3 := 61, s7 := 64, n3Low := 3, n3High := 4 } ∧
    defaultFtxLayout.telemetry = { t71 := 0, n3 := 5 } ∧
    defaultFtxLayout.euVhf2 = { c28To := 0, pTo := 28, c28De := 29, pDe := 57, r1 := 58, g15 := 59, i3 := 2 } ∧
    defaultFtxLayout.rttyRu = { tu := 0, c28To := 1, c28De := 29, r1 := 57, r3 := 58, s13 := 61, i3 := 3 } ∧
    defaultFtxLayout.nonstd = { h12 := 0, c58 := 12, h1 := 70, r2 := 71, cq := 73, i3 := 4 } ∧
    defaultFtxLayout.euVhf5 = { h12 := 0, h22 := 12, r1 := 34, r3 := 35, s11 := 38, g25 := 49, i3 := 5 }

/-- R289, R286 to R288: `FTX_FREE_TEXT`, in every layout that meets R286: the frame holds the big number of R251, the discriminators,
and zeros in the last three bits. The row of FTX_LAYOUT is a parameter (U14, log entry 3). F71_RADIX is a parameter (R250, C10, log
entry 11). -/
def Obligations.FtxFreeTextFrame : Prop :=
  ∀ (s : State) (o : FtxFreeTextOpr), s.opr = .record (.ftxFreeText o) →
    let text := o.text
    let L := s.cfg.ftxLayout.freeText
    let r := s.cfg.f71Radix
    text.length ≤ 13 → allIn a43 text = true → 42 ≤ r → r ^ 13 < 2 ^ 71 → s.cfg.ftxLayout.wf = true →
    ∃ F : Buf 10, exec .ftxFreeText s = .next { s with status := .ok, result := 0, b71 := zeroB71, frame := F } ∧
      bufRead F L.f71 71 = text.foldl (fun m c => m * r + (idx a43 c).getD 0) 0 ∧ bufRead F 71 3 = L.n3 ∧ bufRead F 74 3 = 0 ∧
      bufRead F 77 3 = 0

/-- R292, R286 to R288: `FTX_TELEMETRY`, in every layout that meets R286. The row of FTX_LAYOUT is a parameter (U14, log entry 3). -/
def Obligations.FtxTelemetryFrame : Prop :=
  ∀ (s : State) (o : FtxTelemetryOpr), s.opr = .record (.ftxTelemetry o) →
    let hex := o.hex
    let digit (c : Byte) : Nat :=
      if 0x30 ≤ c.toNat ∧ c.toNat ≤ 0x39 then c.toNat - 0x30
      else if 0x41 ≤ c.toNat ∧ c.toNat ≤ 0x46 then c.toNat - 0x41 + 10
      else if 0x61 ≤ c.toNat ∧ c.toNat ≤ 0x66 then c.toNat - 0x61 + 10
      else 0
    let L := s.cfg.ftxLayout.telemetry
    hex.length ≤ 18 →
    (∀ c ∈ hex, (0x30 ≤ c.toNat ∧ c.toNat ≤ 0x39) ∨ (0x41 ≤ c.toNat ∧ c.toNat ≤ 0x46) ∨ (0x61 ≤ c.toNat ∧ c.toNat ≤ 0x66)) →
    s.cfg.ftxLayout.wf = true →
    ∃ F : Buf 10, exec .ftxTelemetry s = .next { s with status := .ok, result := 0, b71 := zeroB71, frame := F } ∧
      (hex.length < 18 → bufRead F L.t71 71 = hex.foldl (fun m c => m * 16 + digit c) 0) ∧
      (∀ c rest, hex = c :: rest → hex.length = 18 →
        bufRead F L.t71 71 = rest.foldl (fun m c => m * 16 + digit c) (min (digit c) 7)) ∧
      bufRead F 71 3 = L.n3 ∧ bufRead F 74 3 = 0 ∧ bufRead F 77 3 = 0

/-- R290, R286 to R288: `FTX_DXPED`, in every layout that meets R286. The row of FTX_LAYOUT is a parameter (U14, log entry 3). -/
def Obligations.FtxDxpedFrame : Prop :=
  ∀ (s : State) (o : FtxDxpedOpr), s.opr = .record (.ftxDxped o) →
    let L := s.cfg.ftxLayout.dxped
    callCellOk o.callA = true → callCellOk o.callB = true → o.dxCall.length ≤ 11 → allIn a38 (upperText o.dxCall) = true →
    s.cfg.ftxLayout.wf = true →
    ∃ (F : Buf 10) (h : Nat), exec .ftxDxped s = .next { s with status := .ok, result := 0, b71 := zeroB71, frame := F } ∧
      callHash o.dxCall 10 = some h ∧
      bufRead F L.c28a 28 = c28 s.cfg o.callA % 2 ^ 28 ∧ bufRead F L.c28b 28 = c28 s.cfg o.callB % 2 ^ 28 ∧ bufRead F L.h10 10 = h ∧
      bufRead F L.r5 5 = r5 o.report.toInt ∧ bufRead F 71 3 = L.n3 ∧ bufRead F 74 3 = 0 ∧ bufRead F 77 3 = 0

/-- R291, R286 to R288: `FTX_FIELD_DAY`, in every layout that meets R286. The row of FTX_LAYOUT is a parameter (U14, log entry 3). -/
def Obligations.FtxFieldDayFrame : Prop :=
  ∀ (s : State) (o : FtxFieldDayOpr) (k : Nat), s.opr = .record (.ftxFieldDay o) →
    let L := s.cfg.ftxLayout.fieldDay
    callCellOk o.callTo = true → callCellOk o.callDe = true → 1 ≤ o.ntx.toNat → o.ntx.toNat ≤ 32 →
    s.cfg.arrlSections.toList.Nodup → s.cfg.arrlSections[k]? = some (upperText o.sec.val) → s.cfg.s7FrameBias + 83 < 128 →
    s.cfg.ftxLayout.wf = true →
    ∃ F : Buf 10, exec .ftxFieldDay s = .next { s with status := .ok, result := 0, b71 := zeroB71, frame := F } ∧
      bufRead F L.c28To 28 = c28 s.cfg o.callTo % 2 ^ 28 ∧ bufRead F L.c28De 28 = c28 s.cfg o.callDe % 2 ^ 28 ∧
      bufRead F L.r1 1 = o.r.toNat ∧ bufRead F L.n4 4 = (if o.ntx.toNat ≤ 16 then o.ntx.toNat - 1 else o.ntx.toNat - 17) ∧ bufRead F L.k3 3 = k3 o.cls ∧
      bufRead F L.s7 7 = k + s.cfg.s7FrameBias ∧ bufRead F 71 3 = (if o.ntx.toNat ≤ 16 then L.n3Low else L.n3High) ∧
      bufRead F 74 3 = 0 ∧ bufRead F 77 3 = 0

/-- R293, R114, R286 to R288: `FTX_STANDARD`, whose layout is the source's own and no parameter. That the called station comes first is
the spec's general knowledge (log entry 3). -/
def Obligations.FtxStandardFrame : Prop :=
  ∀ (s : State) (o : FtxStandardOpr), s.opr = .record (.ftxStandard o) →
    callCellOk o.callTo = true → callCellOk o.callDe = true → (∀ k, o.g15 ≠ .other k) →
    ∃ F : Buf 10, exec .ftxStandard s = .next { s with status := .ok, result := 0, b71 := zeroB71, frame := F } ∧
      bufRead F 0 28 = c28 s.cfg o.callTo % 2 ^ 28 ∧ bufRead F 28 1 = o.roverTo.toNat ∧
      bufRead F 29 28 = c28 s.cfg o.callDe % 2 ^ 28 ∧ bufRead F 57 1 = o.roverDe.toNat ∧ bufRead F 58 1 = o.r.toNat ∧
      bufRead F 59 15 = g15 o.g15 ∧ bufRead F 74 3 = 1 ∧ bufRead F 77 3 = 0

/-- R294, R286 to R288: `FTX_EU_VHF_2`, in every layout that meets R286. The row of FTX_LAYOUT is a parameter (U14, log entry 3). -/
def Obligations.FtxEuVhf2Frame : Prop :=
  ∀ (s : State) (o : FtxEuVhf2Opr), s.opr = .record (.ftxEuVhf2 o) →
    let L := s.cfg.ftxLayout.euVhf2
    callCellOk o.callTo = true → callCellOk o.callDe = true → (∀ k, o.g15 ≠ .other k) → s.cfg.ftxLayout.wf = true →
    ∃ F : Buf 10, exec .ftxEuVhf2 s = .next { s with status := .ok, result := 0, b71 := zeroB71, frame := F } ∧
      bufRead F L.c28To 28 = c28 s.cfg o.callTo % 2 ^ 28 ∧ bufRead F L.pTo 1 = o.pTo.toNat ∧
      bufRead F L.c28De 28 = c28 s.cfg o.callDe % 2 ^ 28 ∧ bufRead F L.pDe 1 = o.pDe.toNat ∧ bufRead F L.r1 1 = o.r.toNat ∧
      bufRead F L.g15 15 = g15 o.g15 ∧ bufRead F 74 3 = L.i3 ∧ bufRead F 77 3 = 0

/-- R295, R286 to R288: `FTX_RTTY_RU`, in every layout that meets R286, its s13 field as R264 and R265 have it. The alternatives of s13
and the offset of a state are log entry 3 (U24, U26). The row of FTX_LAYOUT is a parameter (U14, log entry 3). -/
def Obligations.FtxRttyRuFrame : Prop :=
  ∀ (s : State) (o : FtxRttyRuOpr), s.opr = .record (.ftxRttyRu o) →
    let L := s.cfg.ftxLayout.rttyRu
    callCellOk o.callTo = true → callCellOk o.callDe = true → (∀ k, o.s13 ≠ .other k) → s.cfg.ftxLayout.wf = true →
    ∃ F : Buf 10, exec .ftxRttyRu s = .next { s with status := .ok, result := 0, b71 := zeroB71, frame := F } ∧
      bufRead F L.tu 1 = o.tu.toNat ∧ bufRead F L.c28To 28 = c28 s.cfg o.callTo % 2 ^ 28 ∧
      bufRead F L.c28De 28 = c28 s.cfg o.callDe % 2 ^ 28 ∧ bufRead F L.r1 1 = o.r.toNat ∧ bufRead F L.r3 3 = r3 o.rst.toNat ∧
      (∀ n, o.s13 = .serial n → bufRead F L.s13 13 = n.toNat % 2 ^ 13) ∧
      (∀ a k, o.s13 = .state a → s.cfg.rttyStates.toList.Nodup → s.cfg.rttyStates[k]? = some (upperText a.val) →
        bufRead F L.s13 13 = (s.cfg.s13StateOffset + k) % 2 ^ 13) ∧
      (∀ a, o.s13 = .state a → upperText a.val ∉ s.cfg.rttyStates.toList → bufRead F L.s13 13 = 0) ∧
      bufRead F 74 3 = L.i3 ∧ bufRead F 77 3 = 0

/-- R296, R286 to R288: `FTX_NONSTD`, in every layout that meets R286. The row of FTX_LAYOUT is a parameter (U14, log entry 3). -/
def Obligations.FtxNonstdFrame : Prop :=
  ∀ (s : State) (o : FtxNonstdOpr), s.opr = .record (.ftxNonstd o) →
    let L := s.cfg.ftxLayout.nonstd
    o.hashCall.length ≤ 11 → o.fullCall.length ≤ 11 → allIn a38 (upperText o.hashCall) = true → allIn a38 (upperText o.fullCall) = true →
    (∀ k, o.word ≠ .other k) → s.cfg.ftxLayout.wf = true →
    ∃ (F : Buf 10) (h n : Nat), exec .ftxNonstd s = .next { s with status := .ok, result := 0, b71 := zeroB71, frame := F } ∧
      callHash o.hashCall 12 = some h ∧ c58 o.fullCall = some n ∧
      bufRead F L.h12 12 = h ∧ bufRead F L.c58 58 = n ∧ bufRead F L.h1 1 = o.h1.toNat ∧ bufRead F L.r2 2 = r2 o.word ∧
      bufRead F L.cq 1 = o.cq.toNat ∧ bufRead F 74 3 = L.i3 ∧ bufRead F 77 3 = 0

/-- R297, R286 to R288: `FTX_EU_VHF_5`, in every layout that meets R286. The row of FTX_LAYOUT is a parameter (U14, log entry 3). -/
def Obligations.FtxEuVhf5Frame : Prop :=
  ∀ (s : State) (o : FtxEuVhf5Opr), s.opr = .record (.ftxEuVhf5 o) →
    let L := s.cfg.ftxLayout.euVhf5
    o.callTo.length ≤ 11 → o.callDe.length ≤ 11 → allIn a38 (upperText o.callTo) = true → allIn a38 (upperText o.callDe) = true →
    s.cfg.ftxLayout.wf = true →
    ∃ (F : Buf 10) (h12 h22 : Nat), exec .ftxEuVhf5 s = .next { s with status := .ok, result := 0, b71 := zeroB71, frame := F } ∧
      callHash o.callTo 12 = some h12 ∧ callHash o.callDe 22 = some h22 ∧
      bufRead F L.h12 12 = h12 ∧ bufRead F L.h22 22 = h22 ∧ bufRead F L.r1 1 = o.r.toNat ∧ bufRead F L.r3 3 = r3 o.rst.toNat ∧
      bufRead F L.s11 11 = s11 o.serial.toNat ∧ bufRead F L.g25 25 = g25 o.grid6.val ∧ bufRead F 74 3 = L.i3 ∧ bufRead F 77 3 = 0

end
end

