-- ==== Sys2Proof/Laws/Buffer.lean ====
section
/-! SUPPORT. What the bit-field primitive does, once for each function: one bit after one write, one bit after `bufWrite`, the value `bufRead`
answers, and how the two meet (R61, R66, R67, R284). -/

namespace Sys2Proof.Machine

/-! ### One bit -/

/-- A byte whose bit `7 - a` was set to `b`. -/
theorem byte_set_bit (x : Byte) (b : Bool) (a c : Nat) (ha : a < 8) (hc : c < 8) :
    ((x &&& ~~~(0x80#8 >>> a)) ||| (if b then 0x80#8 >>> a else 0)).getLsbD (7 - c) = if c = a then b else x.getLsbD (7 - c) := by
  interval_cases a <;> interval_cases c <;> cases b <;> simp

/-- A bit beyond the buffer reads as 0. -/
theorem bufBit_beyond {n : Nat} (B : Buf n) (k : Nat) (h : 8 * n ≤ k) : bufBit B k = false := by
  have : n ≤ k / 8 := by omega
  simp [bufBit, this]

/-- What one step of the loop of R67 does. -/
theorem bufBit_setBufBit {n : Nat} (B : Buf n) (k j : Nat) (b : Bool) (hk : k < 8 * n) :
    bufBit (setBufBit B k b) j = if j = k then b else bufBit B j := by
  have hq : k / 8 < n := by omega
  unfold bufBit setBufBit
  by_cases hd : j / 8 = k / 8
  · rw [hd]
    have hb := byte_set_bit (B[k / 8]?.getD 0) b (k % 8) (j % 8) (Nat.mod_lt _ (by decide)) (Nat.mod_lt _ (by decide))
    simp only [Vector.getElem?_setIfInBounds_self, hq, if_true, Option.getD_some, hb]
    by_cases hm : j = k
    · simp [hm]
    · rw [if_neg (by omega), if_neg hm]
  · rw [if_neg (by rintro rfl; exact hd rfl), Vector.getElem?_setIfInBounds_ne (by omega)]

/-! ### `BufWrite` -/

/-- What `bufWrite` does: the field holds the value, most significant bit first, and no other bit changes. -/
theorem bufBit_bufWrite {n : Nat} (B : Buf n) (off w v k : Nat) (h : off + w ≤ 8 * n) :
    bufBit (bufWrite B off w v) k = if off ≤ k ∧ k < off + w then v.testBit (off + w - 1 - k) else bufBit B k := by
  induction w generalizing v with
  | zero => rw [bufWrite, if_neg (by omega)]
  | succ w ih =>
    rw [bufWrite, bufBit_setBufBit _ _ _ _ (by omega), ih _ (by omega)]
    by_cases hk : k = off + w
    · subst hk; simp
    · rw [if_neg hk]
      by_cases hin : off ≤ k ∧ k < off + w
      · rw [if_pos hin, if_pos (by omega), show off + (w + 1) - 1 - k = (off + w - 1 - k) + 1 by omega, Nat.testBit_succ]
      · rw [if_neg hin, if_neg (by omega)]

/-! ### `BufRead` -/

theorem bufRead_lt {n : Nat} (B : Buf n) (off w : Nat) : bufRead B off w < 2 ^ w := by
  induction w with
  | zero => simp [bufRead]
  | succ w ih => rw [bufRead, Nat.pow_succ]; cases bufBit B (off + w) <;> simp <;> omega

/-- What `bufRead` answers, bit by bit. -/
theorem testBit_bufRead {n : Nat} (B : Buf n) (off w j : Nat) :
    (bufRead B off w).testBit j = (decide (j < w) && bufBit B (off + w - 1 - j)) := by
  induction w generalizing j with
  | zero => simp [bufRead]
  | succ w ih =>
    rw [bufRead]
    cases j with
    | zero => cases hb : bufBit B (off + w) <;> simp [Nat.testBit_zero, hb]
    | succ j =>
      rw [Nat.testBit_succ, show (2 * bufRead B off w + (bufBit B (off + w)).toNat) / 2 = bufRead B off w by
        cases bufBit B (off + w) <;> (simp; try omega), ih, show off + (w + 1) - 1 - (j + 1) = off + w - 1 - j by omega]
      simp

/-- Two buffers with the same bits in the field read the same. -/
theorem bufRead_congr {n m : Nat} (A : Buf n) (B : Buf m) (off w : Nat)
    (h : ∀ k, off ≤ k → k < off + w → bufBit A k = bufBit B k) : bufRead A off w = bufRead B off w := by
  induction w with
  | zero => rfl
  | succ w ih => rw [bufRead, bufRead, ih (fun k h1 h2 => h k h1 (by omega)), h (off + w) (by omega) (by omega)]

/-- The field just written reads as the value, cut to the width of the field. -/
theorem bufRead_bufWrite_same {n : Nat} (B : Buf n) (off w v : Nat) (h : off + w ≤ 8 * n) :
    bufRead (bufWrite B off w v) off w = v % 2 ^ w := by
  apply Nat.eq_of_testBit_eq
  intro j
  rw [testBit_bufRead, Nat.testBit_mod_two_pow]
  by_cases hj : j < w
  · rw [bufBit_bufWrite _ _ _ _ _ h, if_pos (by omega), show off + w - 1 - (off + w - 1 - j) = j by omega]
  · simp [hj]

/-- A field that shares no bit with the one written reads as before. -/
theorem bufRead_bufWrite_disjoint {n : Nat} (B : Buf n) (off w v o u : Nat) (h : off + w ≤ 8 * n)
    (hd : o + u ≤ off ∨ off + w ≤ o) : bufRead (bufWrite B off w v) o u = bufRead B o u := by
  apply bufRead_congr
  intro k h1 h2
  rw [bufBit_bufWrite _ _ _ _ _ h, if_neg (by omega)]

/-- A buffer is its bits. -/
theorem buf_ext_bits {n : Nat} {A B : Buf n} (h : ∀ k, k < 8 * n → bufBit A k = bufBit B k) : A = B := by
  ext i hi j hj
  rw [← BitVec.getLsbD_eq_getElem, ← BitVec.getLsbD_eq_getElem]
  have := h (8 * i + (7 - j)) (by omega)
  simpa [bufBit, show (8 * i + (7 - j)) / 8 = i by omega, show (8 * i + (7 - j)) % 8 = 7 - j by omega,
    show 7 - (7 - j) = j by omega, hi] using this

/-! ### Zero buffers and big-endian values -/

theorem bufBit_replicate_zero (n k : Nat) : bufBit (Vector.replicate n (0 : Byte)) k = false := by
  unfold bufBit
  by_cases h : k / 8 < n <;> simp [h]

@[simp] theorem bufBit_zeroFrame (k : Nat) : bufBit zeroFrame k = false := bufBit_replicate_zero 10 k

@[simp] theorem bufBit_zeroB71 (k : Nat) : bufBit zeroB71 k = false := bufBit_replicate_zero 9 k

theorem beValue_append (S : List Byte) (b : Byte) : beValue (S ++ [b]) = beValue S * 256 + b.toNat := by
  simp [beValue]

/-- Bit `8 * (m - 1 - i) + j` of the big-endian integer of `m` bytes is bit `j` of byte `i`. -/
theorem testBit_beValue (S : List Byte) (q j : Nat) (hj : j < 8) :
    (beValue S).testBit (8 * q + j) = (decide (q < S.length) && (S.getD (S.length - 1 - q) 0).getLsbD j) := by
  induction S using List.reverseRecOn generalizing q with
  | nil => simp [beValue]
  | append_singleton S b ih =>
    rw [beValue_append]
    have hb : b.toNat < 2 ^ 8 := b.isLt
    rw [show beValue S * 256 + b.toNat = 2 ^ 8 * beValue S + b.toNat by omega, Nat.testBit_two_pow_mul_add _ hb]
    cases q with
    | zero => simp [hj, BitVec.getLsbD]
    | succ q =>
      rw [if_neg (by omega), show 8 * (q + 1) + j - 8 = 8 * q + j by omega, ih]
      by_cases hq : q < S.length
      · simp [hq, List.getElem?_append_left (show S.length - 1 - q < S.length by omega), show S.length - (q + 1) = S.length - 1 - q by omega]
      · simp [hq]

/-- The bits of a buffer are those of its big-endian value (R61). -/
theorem bufBit_eq_testBit_beValue {n : Nat} (B : Buf n) (k : Nat) (h : k < 8 * n) :
    bufBit B k = (beValue B.toList).testBit (8 * n - 1 - k) := by
  rw [show 8 * n - 1 - k = 8 * (n - 1 - k / 8) + (7 - k % 8) by omega, testBit_beValue _ _ _ (by omega)]
  have h2 : n - 1 - (n - 1 - k / 8) = k / 8 := by omega
  simp [bufBit, h2, show n - 1 - k / 8 < n by omega]

end Sys2Proof.Machine
end

