-- ==== Sys2Proof/Laws/State.lean ====
section
/-! SUPPORT. For every update of State, each field after it: true by definition, and simp lemmas, so that no proof unfolds a record update. -/

namespace Sys2Proof.Machine

/-! ### `completeSeq` -/

@[simp] theorem completeSeq_cfg (m : SeqMode) (b : BitVec 32) (S : List TxSymbol) (s : State) : (completeSeq m b S s).cfg = s.cfg := rfl
@[simp] theorem completeSeq_cmd (m : SeqMode) (b : BitVec 32) (S : List TxSymbol) (s : State) : (completeSeq m b S s).cmd = s.cmd := rfl
@[simp] theorem completeSeq_opr (m : SeqMode) (b : BitVec 32) (S : List TxSymbol) (s : State) : (completeSeq m b S s).opr = s.opr := rfl
@[simp] theorem completeSeq_status (m : SeqMode) (b : BitVec 32) (S : List TxSymbol) (s : State) : (completeSeq m b S s).status = .ok := rfl
@[simp] theorem completeSeq_result (m : SeqMode) (b : BitVec 32) (S : List TxSymbol) (s : State) : (completeSeq m b S s).result = 0 := rfl
@[simp] theorem completeSeq_b71 (m : SeqMode) (b : BitVec 32) (S : List TxSymbol) (s : State) : (completeSeq m b S s).b71 = zeroB71 := rfl
@[simp] theorem completeSeq_frame (m : SeqMode) (b : BitVec 32) (S : List TxSymbol) (s : State) : (completeSeq m b S s).frame = s.frame := rfl
@[simp] theorem completeSeq_seqMode (m : SeqMode) (b : BitVec 32) (S : List TxSymbol) (s : State) : (completeSeq m b S s).seqMode = m := rfl
@[simp] theorem completeSeq_seqBase (m : SeqMode) (b : BitVec 32) (S : List TxSymbol) (s : State) : (completeSeq m b S s).seqBase = b := rfl
@[simp] theorem completeSeq_seqLen (m : SeqMode) (b : BitVec 32) (S : List TxSymbol) (s : State) : (completeSeq m b S s).seqLen = S.length := rfl
@[simp] theorem completeSeq_seqCursor (m : SeqMode) (b : BitVec 32) (S : List TxSymbol) (s : State) : (completeSeq m b S s).seqCursor = 0 := rfl
@[simp] theorem completeSeq_seqRepeat (m : SeqMode) (b : BitVec 32) (S : List TxSymbol) (s : State) : (completeSeq m b S s).seqRepeat = false := rfl
@[simp] theorem completeSeq_sym (m : SeqMode) (b : BitVec 32) (S : List TxSymbol) (s : State) : (completeSeq m b S s).sym = S := rfl

/-! ### `completeField` -/

@[simp] theorem completeField_cfg (v : BitVec 64) (s : State) : (completeField v s).cfg = s.cfg := rfl
@[simp] theorem completeField_cmd (v : BitVec 64) (s : State) : (completeField v s).cmd = s.cmd := rfl
@[simp] theorem completeField_opr (v : BitVec 64) (s : State) : (completeField v s).opr = s.opr := rfl
@[simp] theorem completeField_status (v : BitVec 64) (s : State) : (completeField v s).status = .ok := rfl
@[simp] theorem completeField_result (v : BitVec 64) (s : State) : (completeField v s).result = v := rfl
@[simp] theorem completeField_b71 (v : BitVec 64) (s : State) : (completeField v s).b71 = zeroB71 := rfl
@[simp] theorem completeField_frame (v : BitVec 64) (s : State) : (completeField v s).frame = s.frame := rfl
@[simp] theorem completeField_seqMode (v : BitVec 64) (s : State) : (completeField v s).seqMode = s.seqMode := rfl
@[simp] theorem completeField_seqBase (v : BitVec 64) (s : State) : (completeField v s).seqBase = s.seqBase := rfl
@[simp] theorem completeField_seqLen (v : BitVec 64) (s : State) : (completeField v s).seqLen = s.seqLen := rfl
@[simp] theorem completeField_seqCursor (v : BitVec 64) (s : State) : (completeField v s).seqCursor = s.seqCursor := rfl
@[simp] theorem completeField_seqRepeat (v : BitVec 64) (s : State) : (completeField v s).seqRepeat = s.seqRepeat := rfl
@[simp] theorem completeField_sym (v : BitVec 64) (s : State) : (completeField v s).sym = s.sym := rfl

/-! ### `completeB71` -/

@[simp] theorem completeB71_cfg (B : Buf 9) (s : State) : (completeB71 B s).cfg = s.cfg := rfl
@[simp] theorem completeB71_cmd (B : Buf 9) (s : State) : (completeB71 B s).cmd = s.cmd := rfl
@[simp] theorem completeB71_opr (B : Buf 9) (s : State) : (completeB71 B s).opr = s.opr := rfl
@[simp] theorem completeB71_status (B : Buf 9) (s : State) : (completeB71 B s).status = .ok := rfl
@[simp] theorem completeB71_result (B : Buf 9) (s : State) : (completeB71 B s).result = 0 := rfl
@[simp] theorem completeB71_b71 (B : Buf 9) (s : State) : (completeB71 B s).b71 = B := rfl
@[simp] theorem completeB71_frame (B : Buf 9) (s : State) : (completeB71 B s).frame = s.frame := rfl
@[simp] theorem completeB71_seqMode (B : Buf 9) (s : State) : (completeB71 B s).seqMode = s.seqMode := rfl
@[simp] theorem completeB71_seqBase (B : Buf 9) (s : State) : (completeB71 B s).seqBase = s.seqBase := rfl
@[simp] theorem completeB71_seqLen (B : Buf 9) (s : State) : (completeB71 B s).seqLen = s.seqLen := rfl
@[simp] theorem completeB71_seqCursor (B : Buf 9) (s : State) : (completeB71 B s).seqCursor = s.seqCursor := rfl
@[simp] theorem completeB71_seqRepeat (B : Buf 9) (s : State) : (completeB71 B s).seqRepeat = s.seqRepeat := rfl
@[simp] theorem completeB71_sym (B : Buf 9) (s : State) : (completeB71 B s).sym = s.sym := rfl

/-! ### `completePack` -/

@[simp] theorem completePack_cfg (F : Buf 10) (s : State) : (completePack F s).cfg = s.cfg := rfl
@[simp] theorem completePack_cmd (F : Buf 10) (s : State) : (completePack F s).cmd = s.cmd := rfl
@[simp] theorem completePack_opr (F : Buf 10) (s : State) : (completePack F s).opr = s.opr := rfl
@[simp] theorem completePack_status (F : Buf 10) (s : State) : (completePack F s).status = .ok := rfl
@[simp] theorem completePack_result (F : Buf 10) (s : State) : (completePack F s).result = 0 := rfl
@[simp] theorem completePack_b71 (F : Buf 10) (s : State) : (completePack F s).b71 = zeroB71 := rfl
@[simp] theorem completePack_frame (F : Buf 10) (s : State) : (completePack F s).frame = F := rfl
@[simp] theorem completePack_seqMode (F : Buf 10) (s : State) : (completePack F s).seqMode = s.seqMode := rfl
@[simp] theorem completePack_seqBase (F : Buf 10) (s : State) : (completePack F s).seqBase = s.seqBase := rfl
@[simp] theorem completePack_seqLen (F : Buf 10) (s : State) : (completePack F s).seqLen = s.seqLen := rfl
@[simp] theorem completePack_seqCursor (F : Buf 10) (s : State) : (completePack F s).seqCursor = s.seqCursor := rfl
@[simp] theorem completePack_seqRepeat (F : Buf 10) (s : State) : (completePack F s).seqRepeat = s.seqRepeat := rfl
@[simp] theorem completePack_sym (F : Buf 10) (s : State) : (completePack F s).sym = s.sym := rfl

/-! ### `errorCompletion_sequence` -/

@[simp] theorem errorCompletion_sequence_cfg (m : SeqMode) (b : BitVec 32) (c : StatusCode) (s : State) : (errorCompletion (.sequence m b) c s).cfg = s.cfg := rfl
@[simp] theorem errorCompletion_sequence_cmd (m : SeqMode) (b : BitVec 32) (c : StatusCode) (s : State) : (errorCompletion (.sequence m b) c s).cmd = s.cmd := rfl
@[simp] theorem errorCompletion_sequence_opr (m : SeqMode) (b : BitVec 32) (c : StatusCode) (s : State) : (errorCompletion (.sequence m b) c s).opr = s.opr := rfl
@[simp] theorem errorCompletion_sequence_status (m : SeqMode) (b : BitVec 32) (c : StatusCode) (s : State) : (errorCompletion (.sequence m b) c s).status = c := rfl
@[simp] theorem errorCompletion_sequence_result (m : SeqMode) (b : BitVec 32) (c : StatusCode) (s : State) : (errorCompletion (.sequence m b) c s).result = 0 := rfl
@[simp] theorem errorCompletion_sequence_b71 (m : SeqMode) (b : BitVec 32) (c : StatusCode) (s : State) : (errorCompletion (.sequence m b) c s).b71 = zeroB71 := rfl
@[simp] theorem errorCompletion_sequence_frame (m : SeqMode) (b : BitVec 32) (c : StatusCode) (s : State) : (errorCompletion (.sequence m b) c s).frame = s.frame := rfl
@[simp] theorem errorCompletion_sequence_seqMode (m : SeqMode) (b : BitVec 32) (c : StatusCode) (s : State) : (errorCompletion (.sequence m b) c s).seqMode = m := rfl
@[simp] theorem errorCompletion_sequence_seqBase (m : SeqMode) (b : BitVec 32) (c : StatusCode) (s : State) : (errorCompletion (.sequence m b) c s).seqBase = b := rfl
@[simp] theorem errorCompletion_sequence_seqLen (m : SeqMode) (b : BitVec 32) (c : StatusCode) (s : State) : (errorCompletion (.sequence m b) c s).seqLen = 0 := rfl
@[simp] theorem errorCompletion_sequence_seqCursor (m : SeqMode) (b : BitVec 32) (c : StatusCode) (s : State) : (errorCompletion (.sequence m b) c s).seqCursor = 0 := rfl
@[simp] theorem errorCompletion_sequence_seqRepeat (m : SeqMode) (b : BitVec 32) (c : StatusCode) (s : State) : (errorCompletion (.sequence m b) c s).seqRepeat = false := rfl
@[simp] theorem errorCompletion_sequence_sym (m : SeqMode) (b : BitVec 32) (c : StatusCode) (s : State) : (errorCompletion (.sequence m b) c s).sym = [] := rfl

/-! ### `errorCompletion_field` -/

@[simp] theorem errorCompletion_field_cfg (c : StatusCode) (s : State) : (errorCompletion .field c s).cfg = s.cfg := rfl
@[simp] theorem errorCompletion_field_cmd (c : StatusCode) (s : State) : (errorCompletion .field c s).cmd = s.cmd := rfl
@[simp] theorem errorCompletion_field_opr (c : StatusCode) (s : State) : (errorCompletion .field c s).opr = s.opr := rfl
@[simp] theorem errorCompletion_field_status (c : StatusCode) (s : State) : (errorCompletion .field c s).status = c := rfl
@[simp] theorem errorCompletion_field_result (c : StatusCode) (s : State) : (errorCompletion .field c s).result = 0 := rfl
@[simp] theorem errorCompletion_field_b71 (c : StatusCode) (s : State) : (errorCompletion .field c s).b71 = zeroB71 := rfl
@[simp] theorem errorCompletion_field_frame (c : StatusCode) (s : State) : (errorCompletion .field c s).frame = s.frame := rfl
@[simp] theorem errorCompletion_field_seqMode (c : StatusCode) (s : State) : (errorCompletion .field c s).seqMode = s.seqMode := rfl
@[simp] theorem errorCompletion_field_seqBase (c : StatusCode) (s : State) : (errorCompletion .field c s).seqBase = s.seqBase := rfl
@[simp] theorem errorCompletion_field_seqLen (c : StatusCode) (s : State) : (errorCompletion .field c s).seqLen = s.seqLen := rfl
@[simp] theorem errorCompletion_field_seqCursor (c : StatusCode) (s : State) : (errorCompletion .field c s).seqCursor = s.seqCursor := rfl
@[simp] theorem errorCompletion_field_seqRepeat (c : StatusCode) (s : State) : (errorCompletion .field c s).seqRepeat = s.seqRepeat := rfl
@[simp] theorem errorCompletion_field_sym (c : StatusCode) (s : State) : (errorCompletion .field c s).sym = s.sym := rfl

/-! ### `errorCompletion_packer` -/

@[simp] theorem errorCompletion_packer_cfg (c : StatusCode) (s : State) : (errorCompletion .packer c s).cfg = s.cfg := rfl
@[simp] theorem errorCompletion_packer_cmd (c : StatusCode) (s : State) : (errorCompletion .packer c s).cmd = s.cmd := rfl
@[simp] theorem errorCompletion_packer_opr (c : StatusCode) (s : State) : (errorCompletion .packer c s).opr = s.opr := rfl
@[simp] theorem errorCompletion_packer_status (c : StatusCode) (s : State) : (errorCompletion .packer c s).status = c := rfl
@[simp] theorem errorCompletion_packer_result (c : StatusCode) (s : State) : (errorCompletion .packer c s).result = 0 := rfl
@[simp] theorem errorCompletion_packer_b71 (c : StatusCode) (s : State) : (errorCompletion .packer c s).b71 = zeroB71 := rfl
@[simp] theorem errorCompletion_packer_frame (c : StatusCode) (s : State) : (errorCompletion .packer c s).frame = zeroFrame := rfl
@[simp] theorem errorCompletion_packer_seqMode (c : StatusCode) (s : State) : (errorCompletion .packer c s).seqMode = s.seqMode := rfl
@[simp] theorem errorCompletion_packer_seqBase (c : StatusCode) (s : State) : (errorCompletion .packer c s).seqBase = s.seqBase := rfl
@[simp] theorem errorCompletion_packer_seqLen (c : StatusCode) (s : State) : (errorCompletion .packer c s).seqLen = s.seqLen := rfl
@[simp] theorem errorCompletion_packer_seqCursor (c : StatusCode) (s : State) : (errorCompletion .packer c s).seqCursor = s.seqCursor := rfl
@[simp] theorem errorCompletion_packer_seqRepeat (c : StatusCode) (s : State) : (errorCompletion .packer c s).seqRepeat = s.seqRepeat := rfl
@[simp] theorem errorCompletion_packer_sym (c : StatusCode) (s : State) : (errorCompletion .packer c s).sym = s.sym := rfl

/-! ### `failField` -/

@[simp] theorem failField_cfg (s : State) : (failField s).cfg = s.cfg := rfl
@[simp] theorem failField_cmd (s : State) : (failField s).cmd = s.cmd := rfl
@[simp] theorem failField_opr (s : State) : (failField s).opr = s.opr := rfl
@[simp] theorem failField_status (s : State) : (failField s).status = .validationError := rfl
@[simp] theorem failField_result (s : State) : (failField s).result = 0 := rfl
@[simp] theorem failField_b71 (s : State) : (failField s).b71 = zeroB71 := rfl
@[simp] theorem failField_frame (s : State) : (failField s).frame = s.frame := rfl
@[simp] theorem failField_seqMode (s : State) : (failField s).seqMode = s.seqMode := rfl
@[simp] theorem failField_seqBase (s : State) : (failField s).seqBase = s.seqBase := rfl
@[simp] theorem failField_seqLen (s : State) : (failField s).seqLen = s.seqLen := rfl
@[simp] theorem failField_seqCursor (s : State) : (failField s).seqCursor = s.seqCursor := rfl
@[simp] theorem failField_seqRepeat (s : State) : (failField s).seqRepeat = s.seqRepeat := rfl
@[simp] theorem failField_sym (s : State) : (failField s).sym = s.sym := rfl

/-! ### `failPack` -/

@[simp] theorem failPack_cfg (s : State) : (failPack s).cfg = s.cfg := rfl
@[simp] theorem failPack_cmd (s : State) : (failPack s).cmd = s.cmd := rfl
@[simp] theorem failPack_opr (s : State) : (failPack s).opr = s.opr := rfl
@[simp] theorem failPack_status (s : State) : (failPack s).status = .validationError := rfl
@[simp] theorem failPack_result (s : State) : (failPack s).result = 0 := rfl
@[simp] theorem failPack_b71 (s : State) : (failPack s).b71 = zeroB71 := rfl
@[simp] theorem failPack_frame (s : State) : (failPack s).frame = zeroFrame := rfl
@[simp] theorem failPack_seqMode (s : State) : (failPack s).seqMode = s.seqMode := rfl
@[simp] theorem failPack_seqBase (s : State) : (failPack s).seqBase = s.seqBase := rfl
@[simp] theorem failPack_seqLen (s : State) : (failPack s).seqLen = s.seqLen := rfl
@[simp] theorem failPack_seqCursor (s : State) : (failPack s).seqCursor = s.seqCursor := rfl
@[simp] theorem failPack_seqRepeat (s : State) : (failPack s).seqRepeat = s.seqRepeat := rfl
@[simp] theorem failPack_sym (s : State) : (failPack s).sym = s.sym := rfl

/-! ### `illegalCommand` -/

@[simp] theorem illegalCommand_cfg (s : State) : (illegalCommand s).cfg = s.cfg := rfl
@[simp] theorem illegalCommand_cmd (s : State) : (illegalCommand s).cmd = s.cmd := rfl
@[simp] theorem illegalCommand_opr (s : State) : (illegalCommand s).opr = s.opr := rfl
@[simp] theorem illegalCommand_status (s : State) : (illegalCommand s).status = .illegalCommand := rfl
@[simp] theorem illegalCommand_result (s : State) : (illegalCommand s).result = 0 := rfl
@[simp] theorem illegalCommand_b71 (s : State) : (illegalCommand s).b71 = zeroB71 := rfl
@[simp] theorem illegalCommand_frame (s : State) : (illegalCommand s).frame = s.frame := rfl
@[simp] theorem illegalCommand_seqMode (s : State) : (illegalCommand s).seqMode = s.seqMode := rfl
@[simp] theorem illegalCommand_seqBase (s : State) : (illegalCommand s).seqBase = s.seqBase := rfl
@[simp] theorem illegalCommand_seqLen (s : State) : (illegalCommand s).seqLen = s.seqLen := rfl
@[simp] theorem illegalCommand_seqCursor (s : State) : (illegalCommand s).seqCursor = s.seqCursor := rfl
@[simp] theorem illegalCommand_seqRepeat (s : State) : (illegalCommand s).seqRepeat = s.seqRepeat := rfl
@[simp] theorem illegalCommand_sym (s : State) : (illegalCommand s).sym = s.sym := rfl

/-! ### `clearCmd` -/

@[simp] theorem clearCmd_cfg (s : State) : (clearCmd s).cfg = s.cfg := rfl
@[simp] theorem clearCmd_cmd (s : State) : (clearCmd s).cmd = none := rfl
@[simp] theorem clearCmd_opr (s : State) : (clearCmd s).opr = s.opr := rfl
@[simp] theorem clearCmd_status (s : State) : (clearCmd s).status = s.status := rfl
@[simp] theorem clearCmd_result (s : State) : (clearCmd s).result = s.result := rfl
@[simp] theorem clearCmd_b71 (s : State) : (clearCmd s).b71 = s.b71 := rfl
@[simp] theorem clearCmd_frame (s : State) : (clearCmd s).frame = s.frame := rfl
@[simp] theorem clearCmd_seqMode (s : State) : (clearCmd s).seqMode = s.seqMode := rfl
@[simp] theorem clearCmd_seqBase (s : State) : (clearCmd s).seqBase = s.seqBase := rfl
@[simp] theorem clearCmd_seqLen (s : State) : (clearCmd s).seqLen = s.seqLen := rfl
@[simp] theorem clearCmd_seqCursor (s : State) : (clearCmd s).seqCursor = s.seqCursor := rfl
@[simp] theorem clearCmd_seqRepeat (s : State) : (clearCmd s).seqRepeat = s.seqRepeat := rfl
@[simp] theorem clearCmd_sym (s : State) : (clearCmd s).sym = s.sym := rfl

/-! ### `latchCmd` -/

@[simp] theorem latchCmd_cfg (op : Byte) (s : State) : (latchCmd op s).cfg = s.cfg := rfl
@[simp] theorem latchCmd_cmd (op : Byte) (s : State) : (latchCmd op s).cmd = some op := rfl
@[simp] theorem latchCmd_opr (op : Byte) (s : State) : (latchCmd op s).opr = s.opr := rfl
@[simp] theorem latchCmd_status (op : Byte) (s : State) : (latchCmd op s).status = s.status := rfl
@[simp] theorem latchCmd_result (op : Byte) (s : State) : (latchCmd op s).result = s.result := rfl
@[simp] theorem latchCmd_b71 (op : Byte) (s : State) : (latchCmd op s).b71 = s.b71 := rfl
@[simp] theorem latchCmd_frame (op : Byte) (s : State) : (latchCmd op s).frame = s.frame := rfl
@[simp] theorem latchCmd_seqMode (op : Byte) (s : State) : (latchCmd op s).seqMode = s.seqMode := rfl
@[simp] theorem latchCmd_seqBase (op : Byte) (s : State) : (latchCmd op s).seqBase = s.seqBase := rfl
@[simp] theorem latchCmd_seqLen (op : Byte) (s : State) : (latchCmd op s).seqLen = s.seqLen := rfl
@[simp] theorem latchCmd_seqCursor (op : Byte) (s : State) : (latchCmd op s).seqCursor = s.seqCursor := rfl
@[simp] theorem latchCmd_seqRepeat (op : Byte) (s : State) : (latchCmd op s).seqRepeat = s.seqRepeat := rfl
@[simp] theorem latchCmd_sym (op : Byte) (s : State) : (latchCmd op s).sym = s.sym := rfl

/-! ### `State.withFetchWord` and `State.resetWith` -/

@[simp] theorem State.withFetchWord_cfg (s : State) (n w : Nat) : (s.withFetchWord n w).cfg = s.cfg := rfl
@[simp] theorem State.withFetchWord_cmd (s : State) (n w : Nat) : (s.withFetchWord n w).cmd = some (BitVec.ofNat 8 (w % 2 ^ n)) := rfl
@[simp] theorem State.withFetchWord_opr (s : State) (n w : Nat) : (s.withFetchWord n w).opr =
    preparedOpr (BitVec.ofNat 8 (w % 2 ^ n)) s.opr := rfl
@[simp] theorem State.withFetchWord_status (s : State) (n w : Nat) : (s.withFetchWord n w).status = s.status := rfl
@[simp] theorem State.withFetchWord_result (s : State) (n w : Nat) : (s.withFetchWord n w).result = s.result := rfl
@[simp] theorem State.withFetchWord_b71 (s : State) (n w : Nat) : (s.withFetchWord n w).b71 = s.b71 := rfl
@[simp] theorem State.withFetchWord_frame (s : State) (n w : Nat) : (s.withFetchWord n w).frame = s.frame := rfl
@[simp] theorem State.withFetchWord_seqMode (s : State) (n w : Nat) : (s.withFetchWord n w).seqMode = s.seqMode := rfl
@[simp] theorem State.withFetchWord_seqBase (s : State) (n w : Nat) : (s.withFetchWord n w).seqBase = s.seqBase := rfl
@[simp] theorem State.withFetchWord_seqLen (s : State) (n w : Nat) : (s.withFetchWord n w).seqLen = s.seqLen := rfl
@[simp] theorem State.withFetchWord_seqCursor (s : State) (n w : Nat) : (s.withFetchWord n w).seqCursor = s.seqCursor := rfl
@[simp] theorem State.withFetchWord_seqRepeat (s : State) (n w : Nat) : (s.withFetchWord n w).seqRepeat = s.seqRepeat := rfl
@[simp] theorem State.withFetchWord_sym (s : State) (n w : Nat) : (s.withFetchWord n w).sym = s.sym := rfl
@[simp] theorem State.resetWith_cfg (c : Config) : (State.resetWith c).cfg = c := rfl
@[simp] theorem State.resetWith_cmd (c : Config) : (State.resetWith c).cmd = none := rfl
@[simp] theorem State.resetWith_opr (c : Config) : (State.resetWith c).opr = .unwritten := rfl
@[simp] theorem State.resetWith_status (c : Config) : (State.resetWith c).status = .idle := rfl
@[simp] theorem State.resetWith_result (c : Config) : (State.resetWith c).result = 0 := rfl
@[simp] theorem State.resetWith_b71 (c : Config) : (State.resetWith c).b71 = zeroB71 := rfl
@[simp] theorem State.resetWith_frame (c : Config) : (State.resetWith c).frame = zeroFrame := rfl
@[simp] theorem State.resetWith_seqMode (c : Config) : (State.resetWith c).seqMode = .none := rfl
@[simp] theorem State.resetWith_seqBase (c : Config) : (State.resetWith c).seqBase = 0 := rfl
@[simp] theorem State.resetWith_seqLen (c : Config) : (State.resetWith c).seqLen = 0 := rfl
@[simp] theorem State.resetWith_seqCursor (c : Config) : (State.resetWith c).seqCursor = 0 := rfl
@[simp] theorem State.resetWith_seqRepeat (c : Config) : (State.resetWith c).seqRepeat = false := rfl
@[simp] theorem State.resetWith_sym (c : Config) : (State.resetWith c).sym = [] := rfl

end Sys2Proof.Machine
end

