-- ==== Sys2Proof/Laws/Ops.lean ====
section
/-! SUPPORT. The transient symbol list and the stored durations: what `emit`, `extend`, `storeDur` and `storeSymbol` do (R135, R34). -/

namespace Sys2Proof.Machine

@[simp] theorem length_emit (S : List Draft) (f : Rat) (d : Nat) (on : Bool) : (emit S f d on).length = S.length + 1 := by
  simp [emit]

@[simp] theorem length_extend (d : Nat) (S : List Draft) : (extend d S).length = S.length := by
  induction S with
  | nil => rfl
  | cons x r ih => cases r with
    | nil => rfl
    | cons y r => simpa [extend] using ih

/-- `extend` changes the last symbol only, and of it the duration only. -/
theorem extend_append_singleton (d : Nat) (S : List Draft) (x : Draft) :
    extend d (S ++ [x]) = S ++ [{ x with dur := x.dur + d }] := by
  induction S with
  | nil => rfl
  | cons y r ih => cases r with
    | nil => rfl
    | cons z r => simpa [extend] using ih

/-- A stored duration is exact where it fits 32 bits. -/
theorem toNat_storeDur (free : BitVec 32) (d : Nat) (h : d < 2 ^ 32) : (storeDur free d).toNat = d := by
  rw [storeDur, if_pos h, BitVec.toNat_ofNat, Nat.mod_eq_of_lt h]

/-- A stored duration is never 0 if the exact one is not. -/
theorem storeDur_pos (free : BitVec 32) (d : Nat) (h : 0 < d) : 0 < (storeDur free d).toNat := by
  unfold storeDur
  split
  · rename_i hd
    rwa [BitVec.toNat_ofNat, Nat.mod_eq_of_lt hd]
  · split
    · decide
    · rename_i hf
      rcases Nat.eq_zero_or_pos free.toNat with h0 | h0
      · exact absurd (BitVec.eq_of_toNat_eq (by simpa using h0)) hf
      · exact h0

@[simp] theorem storeSymbol_freq (free : BitVec 32) (x : Draft) : (storeSymbol free x).freq = x.freq := rfl
@[simp] theorem storeSymbol_on (free : BitVec 32) (x : Draft) : (storeSymbol free x).on = x.on := rfl
@[simp] theorem storeSymbol_dur (free : BitVec 32) (x : Draft) : (storeSymbol free x).dur = storeDur free x.dur := rfl

@[simp] theorem length_cwStore (c : Config) (o : EncCwOpr) (S : List Draft) : (cwStore c o S).length = S.length := by
  simp [cwStore]

theorem getElem?_cwStore (c : Config) (o : EncCwOpr) (S : List Draft) (i : Nat) :
    (cwStore c o S)[i]? = S[i]?.map (storeSymbol (Config.cwDurOverflow c o.text o.wpm o.base i)) := by
  simp [cwStore]

/-- Every completion leaves the configuration, CMD and OPR alone. -/
theorem completeSeq_same (m : SeqMode) (b : BitVec 32) (S : List TxSymbol) (s : State) : SameOperands s (completeSeq m b S s) :=
  ⟨rfl, rfl, rfl⟩

theorem errorCompletion_same (f : Family) (c : StatusCode) (s : State) : SameOperands s (errorCompletion f c s) := by
  cases f <;> exact ⟨rfl, rfl, rfl⟩

/-- An error completion writes its code, and zero to RESULT and B71, whatever the family (R330). -/
theorem errorCompletion_common (f : Family) (c : StatusCode) (s : State) :
    (errorCompletion f c s).status = c ∧ (errorCompletion f c s).result = 0 ∧ (errorCompletion f c s).b71 = zeroB71 := by
  cases f <;> exact ⟨rfl, rfl, rfl⟩

end Sys2Proof.Machine
end

