-- ==== Sys2Proof/Laws/Exec.lean ====
section
/-! SUPPORT. What an operation of each family can answer: the inversion lemmas the proofs about all operations cite instead of unfolding the
meanings (R132 to R134, R339). -/

namespace Sys2Proof.Machine

/-- The outcomes of an operation that writes neither FRAME nor the sequence: the field encoders and `UNPACK_BITS`. -/
inductive FieldOutcome (s : State) : Host.Outcome State Fault Refusal → Prop where
  | failed : FieldOutcome s (.next (failField s))
  | value (v : BitVec 64) : FieldOutcome s (.next (completeField v s))
  | big (B : Buf 9) : FieldOutcome s (.next (completeB71 B s))
  | refused : FieldOutcome s (.refused .charOutsideAlphabet)

/-- The outcomes of an operation that writes FRAME: the payload packers and `PACK_BITS`. -/
inductive PackOutcome (s : State) : Host.Outcome State Fault Refusal → Prop where
  | failed : PackOutcome s (.next (failPack s))
  | frame (F : Buf 10) : PackOutcome s (.next (completePack F s))
  | refused : PackOutcome s (.refused .charOutsideAlphabet)

/-- The outcomes of a sequence encoder. -/
inductive SequenceOutcome (s : State) : Host.Outcome State Fault Refusal → Prop where
  | invalid (m : SeqMode) (b : BitVec 32) : SequenceOutcome s (.next (errorCompletion (.sequence m b) .validationError s))
  | noRoom (m : SeqMode) (b : BitVec 32) : SequenceOutcome s (.next (errorCompletion (.sequence m b) .allocationError s))
  | done (m : SeqMode) (b : BitVec 32) (S : List TxSymbol) : SequenceOutcome s (.next (completeSeq m b S s))
  | refused : SequenceOutcome s (.refused .wsprUnrepresentable)

theorem exec_fieldEncoder (i : Instr) (s : State) (h : isFieldEncoder i = true ∨ i = .unpackBits) : FieldOutcome s (exec i s) := by
  cases i <;> first
    | exact absurd h (by decide)
    | (simp only [exec, execUnpackBits, execFeC28, execFeG15, execFeG25, execFeC58, execFeF71, execFeT71, execFeHash, execFeS7,
        execFeState, execFeR2, execFeR3, execFeR5, execFeK3, execFeS11]
       repeat' split
       all_goals first | exact .failed | exact .value _ | exact .big _ | exact .refused)

theorem exec_packer (i : Instr) (s : State) (h : writesFrame i = true) : PackOutcome s (exec i s) := by
  cases i <;> first
    | exact absurd h (by decide)
    | (simp only [exec, execPackBits, execFtxFreeText, execFtxDxped, execFtxFieldDay, execFtxTelemetry, execFtxStandard, execFtxEuVhf2,
        execFtxRttyRu, execFtxNonstd, execFtxEuVhf5]
       repeat' split
       all_goals first | exact .failed | exact .frame _ | exact .refused)

theorem exec_sequenceEncoder (i : Instr) (s : State) (h : isSequenceEncoder i = true) : SequenceOutcome s (exec i s) := by
  cases i <;> first
    | exact absurd h (by decide)
    | (simp only [exec, execEncCw, execEncRtty, execEncWspr]
       repeat' split
       all_goals first | exact .invalid _ _ | exact .noRoom _ _ | exact .done _ _ _ | exact .refused)

@[simp] theorem Opr.holds_unwritten (i : Instr) : Opr.unwritten.holds i = false := rfl

@[simp] theorem Opr.holds_record (i : Instr) (r : OprRecord) : (Opr.record r).holds i = decide (r.instr = i) := rfl

@[simp] theorem instr_blankRecord (i : Instr) : (blankRecord i).instr = i := by cases i <;> rfl

/-- Where the word of an operation is placed, OPR holds a record of its shape, the one it held if that has the shape. -/
theorem holds_preparedOpr (op : Byte) (i : Instr) (opr : Opr) (h : decode op = .ok i) : (preparedOpr op opr).holds i = true := by
  unfold preparedOpr
  rw [h]
  dsimp only
  split
  · assumption
  · simp

/-- What an operation reads in OPR has its shape. -/
@[simp] theorem instr_recordFor (opr : Opr) (i : Instr) : (opr.recordFor i).instr = i := by cases i <;> rfl

/-- An operation reads OPR's own record where OPR holds one for it (R25). -/
theorem recordFor_of_holds (opr : Opr) (i : Instr) (h : opr.holds i = true) : opr = .record (opr.recordFor i) := by
  cases opr with
  | unwritten => cases h
  | record r =>
    obtain rfl : r.instr = i := by simpa using h
    cases r <;> rfl

/-- A record in OPR is what its own operation reads. -/
@[simp] theorem recordFor_record (r : OprRecord) : (Opr.record r).recordFor r.instr = r := by cases r <;> rfl

/-- A record in OPR is what its own operation reads, shape by shape: no proof unfolds the accessors of OPR. -/
@[simp] theorem Opr.encCw_record (o : EncCwOpr) : (Opr.record (.encCw o)).encCw = o := rfl
@[simp] theorem Opr.encRtty_record (o : EncRttyOpr) : (Opr.record (.encRtty o)).encRtty = o := rfl
@[simp] theorem Opr.encWspr_record (o : EncWsprOpr) : (Opr.record (.encWspr o)).encWspr = o := rfl
@[simp] theorem Opr.packBits_record (o : PackBitsOpr) : (Opr.record (.packBits o)).packBits = o := rfl
@[simp] theorem Opr.unpackBits_record (o : UnpackBitsOpr) : (Opr.record (.unpackBits o)).unpackBits = o := rfl
@[simp] theorem Opr.feC28_record (o : FeC28Opr) : (Opr.record (.feC28 o)).feC28 = o := rfl
@[simp] theorem Opr.feG15_record (o : FeG15Opr) : (Opr.record (.feG15 o)).feG15 = o := rfl
@[simp] theorem Opr.feG25_record (o : FeG25Opr) : (Opr.record (.feG25 o)).feG25 = o := rfl
@[simp] theorem Opr.feC58_record (o : FeC58Opr) : (Opr.record (.feC58 o)).feC58 = o := rfl
@[simp] theorem Opr.feF71_record (o : FeF71Opr) : (Opr.record (.feF71 o)).feF71 = o := rfl
@[simp] theorem Opr.feT71_record (o : FeT71Opr) : (Opr.record (.feT71 o)).feT71 = o := rfl
@[simp] theorem Opr.feHash_record (o : FeHashOpr) : (Opr.record (.feHash o)).feHash = o := rfl
@[simp] theorem Opr.feS7_record (o : FeS7Opr) : (Opr.record (.feS7 o)).feS7 = o := rfl
@[simp] theorem Opr.feState_record (o : FeStateOpr) : (Opr.record (.feState o)).feState = o := rfl
@[simp] theorem Opr.feR2_record (o : FeR2Opr) : (Opr.record (.feR2 o)).feR2 = o := rfl
@[simp] theorem Opr.feR3_record (o : FeR3Opr) : (Opr.record (.feR3 o)).feR3 = o := rfl
@[simp] theorem Opr.feR5_record (o : FeR5Opr) : (Opr.record (.feR5 o)).feR5 = o := rfl
@[simp] theorem Opr.feK3_record (o : FeK3Opr) : (Opr.record (.feK3 o)).feK3 = o := rfl
@[simp] theorem Opr.feS11_record (o : FeS11Opr) : (Opr.record (.feS11 o)).feS11 = o := rfl
@[simp] theorem Opr.ftxFreeText_record (o : FtxFreeTextOpr) : (Opr.record (.ftxFreeText o)).ftxFreeText = o := rfl
@[simp] theorem Opr.ftxDxped_record (o : FtxDxpedOpr) : (Opr.record (.ftxDxped o)).ftxDxped = o := rfl
@[simp] theorem Opr.ftxFieldDay_record (o : FtxFieldDayOpr) : (Opr.record (.ftxFieldDay o)).ftxFieldDay = o := rfl
@[simp] theorem Opr.ftxTelemetry_record (o : FtxTelemetryOpr) : (Opr.record (.ftxTelemetry o)).ftxTelemetry = o := rfl
@[simp] theorem Opr.ftxStandard_record (o : FtxStandardOpr) : (Opr.record (.ftxStandard o)).ftxStandard = o := rfl
@[simp] theorem Opr.ftxEuVhf2_record (o : FtxEuVhf2Opr) : (Opr.record (.ftxEuVhf2 o)).ftxEuVhf2 = o := rfl
@[simp] theorem Opr.ftxRttyRu_record (o : FtxRttyRuOpr) : (Opr.record (.ftxRttyRu o)).ftxRttyRu = o := rfl
@[simp] theorem Opr.ftxNonstd_record (o : FtxNonstdOpr) : (Opr.record (.ftxNonstd o)).ftxNonstd = o := rfl
@[simp] theorem Opr.ftxEuVhf5_record (o : FtxEuVhf5Opr) : (Opr.record (.ftxEuVhf5 o)).ftxEuVhf5 = o := rfl

/-- Every operation belongs to one of the three. -/
theorem instr_family (i : Instr) : isSequenceEncoder i = true ∨ (isFieldEncoder i = true ∨ i = .unpackBits) ∨ writesFrame i = true := by
  cases i <;> decide

end Sys2Proof.Machine
end

