-- ==== Sys2Proof/Laws/Layout.lean ====
section
/-! SUPPORT. What `coversExactly` says of a layout: every field ends within the covered bits and no two fields share a bit (R286). -/

namespace Sys2Proof

/-- The field `f` holds bit `k`. -/
def holdsBit (f : Nat × Nat) (k : Nat) : Prop := f.1 ≤ k ∧ k < f.1 + f.2

theorem coversExactly_fits {fields : List (Nat × Nat)} {n : Nat} (h : coversExactly fields n = true) :
    ∀ f ∈ fields, f.1 + f.2 ≤ n := by
  simp only [coversExactly, Bool.and_eq_true, List.all_eq_true, decide_eq_true_eq] at h
  exact h.1

theorem coversExactly_disjoint {fields : List (Nat × Nat)} {n : Nat} (h : coversExactly fields n = true) :
    fields.Pairwise fun f g => ∀ k, ¬(holdsBit f k ∧ holdsBit g k) := by
  have hfit := coversExactly_fits h
  simp only [coversExactly, Bool.and_eq_true, List.all_eq_true, List.mem_range, beq_iff_eq] at h
  rw [List.pairwise_iff_forall_sublist]
  rintro f g hs k ⟨⟨h1, h2⟩, ⟨h3, h4⟩⟩
  have hf := hfit f (hs.subset (by simp))
  have hone := h.2 k (by omega)
  have hle := (hs.filter fun x => decide (x.1 ≤ k) && decide (k < x.1 + x.2)).length_le
  rw [hone] at hle
  simp [h1, h2, h3, h4] at hle

namespace Machine

/-- A field that shares no bit with the one written reads as before, the disjointness in terms of bits. -/
theorem bufRead_bufWrite_bits {n : Nat} (B : Buf n) (off w v o u : Nat) (h : off + w ≤ 8 * n)
    (hd : ∀ k, ¬(holdsBit (off, w) k ∧ holdsBit (o, u) k)) : bufRead (bufWrite B off w v) o u = bufRead B o u := by
  apply bufRead_congr
  intro k h1 h2
  rw [bufBit_bufWrite _ _ _ _ _ h, if_neg (fun (hin : off ≤ k ∧ k < off + w) => hd k ⟨hin, h1, h2⟩)]

end Machine

end Sys2Proof
end

