-- ==== Sys2Proof/Laws/PerInstr.lean ====
section
/-! SUPPORT. Statements for all instructions, one lemma per constructor. -/

namespace Sys2Proof.Laws.RoundTrip

/-- The opcode the encoder writes is read back as the same operation, it is a well-formed one, and it stands in the group the decoder takes
from its high nibble (R91, R92). -/
def Statement (i : Instr) : Prop :=
  i.wf = true ∧ decode (encode i) = .ok i ∧ opcodeMap (opcodeGroup (encode i)) (opcodeIndex (encode i)) = some i

theorem encCw : Statement .encCw := ⟨rfl, rfl, rfl⟩
theorem encRtty : Statement .encRtty := ⟨rfl, rfl, rfl⟩
theorem encWspr : Statement .encWspr := ⟨rfl, rfl, rfl⟩
theorem packBits : Statement .packBits := ⟨rfl, rfl, rfl⟩
theorem unpackBits : Statement .unpackBits := ⟨rfl, rfl, rfl⟩
theorem feC28 : Statement .feC28 := ⟨rfl, rfl, rfl⟩
theorem feG15 : Statement .feG15 := ⟨rfl, rfl, rfl⟩
theorem feG25 : Statement .feG25 := ⟨rfl, rfl, rfl⟩
theorem feC58 : Statement .feC58 := ⟨rfl, rfl, rfl⟩
theorem feF71 : Statement .feF71 := ⟨rfl, rfl, rfl⟩
theorem feT71 : Statement .feT71 := ⟨rfl, rfl, rfl⟩
theorem feHash : Statement .feHash := ⟨rfl, rfl, rfl⟩
theorem feS7 : Statement .feS7 := ⟨rfl, rfl, rfl⟩
theorem feState : Statement .feState := ⟨rfl, rfl, rfl⟩
theorem feR2 : Statement .feR2 := ⟨rfl, rfl, rfl⟩
theorem feR3 : Statement .feR3 := ⟨rfl, rfl, rfl⟩
theorem feR5 : Statement .feR5 := ⟨rfl, rfl, rfl⟩
theorem feK3 : Statement .feK3 := ⟨rfl, rfl, rfl⟩
theorem feS11 : Statement .feS11 := ⟨rfl, rfl, rfl⟩
theorem ftxFreeText : Statement .ftxFreeText := ⟨rfl, rfl, rfl⟩
theorem ftxDxped : Statement .ftxDxped := ⟨rfl, rfl, rfl⟩
theorem ftxFieldDay : Statement .ftxFieldDay := ⟨rfl, rfl, rfl⟩
theorem ftxTelemetry : Statement .ftxTelemetry := ⟨rfl, rfl, rfl⟩
theorem ftxStandard : Statement .ftxStandard := ⟨rfl, rfl, rfl⟩
theorem ftxEuVhf2 : Statement .ftxEuVhf2 := ⟨rfl, rfl, rfl⟩
theorem ftxRttyRu : Statement .ftxRttyRu := ⟨rfl, rfl, rfl⟩
theorem ftxNonstd : Statement .ftxNonstd := ⟨rfl, rfl, rfl⟩
theorem ftxEuVhf5 : Statement .ftxEuVhf5 := ⟨rfl, rfl, rfl⟩

end Sys2Proof.Laws.RoundTrip
end

