-- ==== Sys2Proof/Tests/Slice0.lean ====
section
/-! SUPPORT. Tests: every constructor's opcode written out bit by bit from the opcode map (R92); an ill-formed configuration for each check;
one step of each operation with the expected result from the spec's worked examples and test vectors; and for each statement that has
hypotheses a state and operands that meet them. -/

namespace Sys2Proof.Tests

open Sys2Proof.Machine

set_option Elab.async false

/-! ## Helpers -/

/-- The reset state with one operand record written. -/
def withRecord (r : OprRecord) : State := { State.reset with opr := .record r }

/-- The bytes of a short text as a `str(0..255)`. -/
def short (t : Text) : Str255 := ⟨t.take 255, List.length_take_le 255 t⟩

/-- The standard callsigns of the spec's examples. -/
def k1abc : CallCell := .std (ascii "K1ABC")
def w9xyz : CallCell := .std (ascii "W9XYZ")

/-- What one operation leaves in one register, `none` if it does not complete. -/
def after {α : Type} (f : State → α) (i : Instr) (s : State) : Option α :=
  match exec i s with
  | .next t => some (f t)
  | _ => none

/-- STATUS and RESULT. -/
def field (i : Instr) (r : OprRecord) : Option (StatusCode × Nat) := after (fun t => (t.status, t.result.toNat)) i (withRecord r)

/-- STATUS and the bytes of B71. -/
def big (i : Instr) (r : OprRecord) : Option (StatusCode × List Nat) :=
  after (fun t => (t.status, t.b71.toList.map BitVec.toNat)) i (withRecord r)

/-- STATUS and the bytes of FRAME. -/
def packed (i : Instr) (r : OprRecord) : Option (StatusCode × List Nat) :=
  after (fun t => (t.status, t.frame.toList.map BitVec.toNat)) i (withRecord r)

/-- STATUS, the mode, and of every symbol its carrier flag and its duration. -/
def keyed (i : Instr) (r : OprRecord) : Option (StatusCode × Nat × List (Bool × Nat)) :=
  after (fun t => (t.status, (seqModeWord t.seqMode).toNat, t.sym.map fun y => (y.on, y.dur.toNat))) i (withRecord r)

/-! ## Decoding: the words of R92, bit by bit -/

theorem test_decode_sequence_encoders :
    decode 0b0000_0001 = .ok .encCw ∧ decode 0b0000_0010 = .ok .encRtty ∧ decode 0b0000_0011 = .ok .encWspr := by decide

theorem test_decode_bit_field : decode 0b0001_0000 = .ok .packBits ∧ decode 0b0001_0001 = .ok .unpackBits := by decide

theorem test_decode_field_encoders :
    decode 0b0010_0000 = .ok .feC28 ∧ decode 0b0010_0001 = .ok .feG15 ∧ decode 0b0010_0010 = .ok .feG25 ∧
      decode 0b0010_0011 = .ok .feC58 ∧ decode 0b0010_0100 = .ok .feF71 ∧ decode 0b0010_0101 = .ok .feT71 ∧
      decode 0b0010_0110 = .ok .feHash ∧ decode 0b0010_0111 = .ok .feS7 ∧ decode 0b0010_1000 = .ok .feState ∧
      decode 0b0010_1001 = .ok .feR2 ∧ decode 0b0010_1010 = .ok .feR3 ∧ decode 0b0010_1011 = .ok .feR5 ∧
      decode 0b0010_1100 = .ok .feK3 ∧ decode 0b0010_1101 = .ok .feS11 := by decide

theorem test_decode_packers :
    decode 0b0100_0000 = .ok .ftxFreeText ∧ decode 0b0100_0001 = .ok .ftxDxped ∧ decode 0b0100_0010 = .ok .ftxFieldDay ∧
      decode 0b0100_0011 = .ok .ftxTelemetry ∧ decode 0b0100_0100 = .ok .ftxStandard ∧ decode 0b0100_0101 = .ok .ftxEuVhf2 ∧
      decode 0b0100_0110 = .ok .ftxRttyRu ∧ decode 0b0100_0111 = .ok .ftxNonstd ∧ decode 0b0100_1000 = .ok .ftxEuVhf5 := by decide

/-- The edges of the illegal ranges of R93. -/
theorem test_decode_illegal :
    [0x00, 0x04, 0x0F, 0x12, 0x1F, 0x2E, 0x3F, 0x49, 0xFF].all fun n =>
      decide (decode (BitVec.ofNat 8 n) = .error (.illegalOpcode (BitVec.ofNat 8 n))) := by decide

theorem test_table_word : decodeTableWord 8 0x44 = some .ftxStandard ∧ decodeTableWord 8 0x00 = none ∧ decodeTableWord 16 0x44 = none := by
  decide

/-- A command is fetched and run: 0x2A on a record that holds `rst = 9`. -/
theorem test_step_runs : (match step ((withRecord (.feR3 ⟨9⟩)).withFetchWord 8 0x2A) with
    | .next t => decide (t.result = 7) && decide (t.cmd = none) && decide (t.status = .ok)
    | _ => false) = true := by decide

theorem test_step_illegal : (match step ({ State.reset with frame := Vector.replicate 10 0xFF }.withFetchWord 8 0x00) with
    | .next t => decide (t.status = .illegalCommand) && decide (t.frame = Vector.replicate 10 0xFF)
    | _ => false) = true := by decide

/-! ## WellFormed: the default configuration passes, an ill-formed one fails each check -/

theorem test_instr_wf : Instr.wf .encCw = true := rfl

theorem test_config_default : defaultConfig.wf = true := by decide +kernel

theorem test_config_symCap : { defaultConfig with symCap := 161 }.symCapOk = false := by decide

theorem test_config_morse_empty : { defaultConfig with morse := defaultMorse.set 1 [] }.morseOk = false := by decide +kernel

theorem test_config_morse_e : { defaultConfig with morse := defaultMorse.set 4 [.dash] }.morseOk = false := by decide +kernel

theorem test_config_ita2_control :
    { defaultConfig with ita2Letters := defaultIta2Letters.set 4 none }.ita2Ok = false := by decide +kernel

theorem test_config_ita2_shift :
    { defaultConfig with ita2Figures := defaultIta2Figures.set 0x1F (some 0x41) }.ita2Ok = false := by decide +kernel

theorem test_config_table_repeat :
    { defaultConfig with arrlSections := defaultArrlSections.set 1 (ascii "AB") }.tablesOk = false := by decide +kernel

theorem test_config_table_lower :
    { defaultConfig with rttyStates := defaultRttyStates.set 0 (ascii "al") }.tablesOk = false := by decide +kernel

theorem test_config_numbers :
    { defaultConfig with c28Radix1 := 37 }.numbersOk = false ∧ { defaultConfig with f71Radix := 41 }.numbersOk = false ∧
      { defaultConfig with f71Radix := 45 }.numbersOk = false ∧ { defaultConfig with s7FrameBias := 45 }.numbersOk = false ∧
      { defaultConfig with s13StateOffset := 0 }.numbersOk = false ∧
      { defaultConfig with s13StateOffset := 8128 }.numbersOk = false := by decide +kernel

/-- Two fields that overlap, a field that leaves a gap, and a discriminator that does not fit. -/
theorem test_config_layout :
    { defaultFtxLayout with dxped := { defaultFtxLayout.dxped with c28b := 27 } }.wf = false ∧
      { defaultFtxLayout with rttyRu := { defaultFtxLayout.rttyRu with tu := 74 } }.wf = false ∧
      { defaultFtxLayout with telemetry := { defaultFtxLayout.telemetry with n3 := 8 } }.wf = false := by decide +kernel

/-! ## The sequence encoders -/

/-- V-CW-3, R152. -/
theorem test_cw_word_gap : keyed .encCw (.encCw ⟨ascii "E E", 12, 7030000⟩) =
    some (.ok, 1, [(true, 100000), (false, 700000), (true, 100000), (false, 100000)]) := by decide +kernel

/-- V-CW-15: seventeen zeros need 170 symbols, more than 162. -/
theorem test_cw_no_room : keyed .encCw (.encCw ⟨List.replicate 17 0x30, 20, 0⟩) = some (.allocationError, 1, []) := by decide +kernel

/-- V-RT-13, R176. -/
theorem test_rtty_a : after (fun t => t.sym.map fun y => (y.freq, y.dur.toNat)) .encRtty
      (withRecord (.encRtty ⟨ascii "A", mkRat 4545 100, 170, mkRat 3 2, false, false, 14080000⟩)) =
    some [(170, 22002), (0, 22002), (0, 22002), (170, 22002), (170, 22002), (170, 22002), (0, 33003)] := by decide +kernel

/-- V-RT-8. -/
theorem test_rtty_shifts : rttyCodes defaultConfig .letters (ascii "a-b") = [0x03, 0x1B, 0x03, 0x1F, 0x19] := by decide +kernel

/-- V-WS-1, R219: the 162 tone indices. -/
theorem test_wspr_k1abc :
    (wsprToneStage defaultConfig (wsprC6 (ascii "K1ABC")) (ascii "FN42") 37).toList =
      (ascii ("33002000102013122210032313322020003201232200223211023321022132122203303030121021" ++
        "2032132003323032203020201023021112330231212221332000010320132222202332323320031222")).map digitVal := by
  decide +kernel

/-- R219: `N`, `M` and the packed buffer. -/
theorem test_wspr_stages : wsprN (wsprC6 (ascii "K1ABC")) = 259047992 ∧ wsprM (ascii "FN42") 37 = 2896997 ∧
    (wsprPack 259047992 2896997).toList.map BitVec.toNat = [0xF7, 0x0C, 0x23, 0x8B, 0x0D, 0x19, 0x40, 0, 0, 0, 0] := by decide +kernel

/-! ## PACK_BITS and UNPACK_BITS (R282, R283, R69) -/

theorem test_pack_bits : packed .packBits (.packBits ⟨5, 3, 5⟩) = some (.ok, [5, 0, 0, 0, 0, 0, 0, 0, 0, 0]) := by decide +kernel

theorem test_pack_bits_illegal :
    after (fun t => (t.status, t.frame)) .packBits { withRecord (.packBits ⟨77, 4, 0⟩) with frame := Vector.replicate 10 0xFF } =
      some (.validationError, zeroFrame) := by decide +kernel

theorem test_unpack_bits :
    after (fun t => (t.status, t.result)) .unpackBits
      { withRecord (.unpackBits ⟨4, 8⟩) with frame := #v[0xFC, 0x3F, 0xFF, 0xFF, 0xFF, 0xFF, 0xFF, 0xFF, 0xFF, 0xFF] } =
      some (.ok, 195) := by decide +kernel

theorem test_unpack_bits_illegal : field .unpackBits (.unpackBits ⟨20, 65⟩) = some (.validationError, 0) := by decide +kernel

/-! ## The field encoders (the examples of their rules) -/

theorem test_fe_c28 : field .feC28 (.feC28 ⟨k1abc⟩) = some (.ok, 10214965) ∧
    field .feC28 (.feC28 ⟨.std (ascii "ZZ9ZZZ")⟩) = some (.ok, 268435455) := by decide +kernel

theorem test_fe_c28_cells : field .feC28 (.feC28 ⟨.cqMod (.lets (ascii "DX"))⟩) = some (.ok, 1135) ∧
    field .feC28 (.feC28 ⟨.hash22 4194304⟩) = some (.validationError, 0) := by decide +kernel

theorem test_fe_g15 : field .feG15 (.feG15 ⟨.grid (short (ascii "FN42"))⟩) = some (.ok, 10342) ∧
    field .feG15 (.feG15 ⟨.grid (short (ascii "fn42"))⟩) = some (.ok, 0) := by decide +kernel

theorem test_fe_g15_report : field .feG15 (.feG15 ⟨.report 400⟩) = some (.ok, 67) ∧
    field .feG15 (.feG15 ⟨.report (-15)⟩) = some (.ok, 32420) := by decide +kernel

theorem test_fe_g25 : field .feG25 (.feG25 ⟨short (ascii "FN42AB")⟩) = some (.ok, 5956993) ∧
    field .feG25 (.feG25 ⟨short (ascii "FN42")⟩) = some (.ok, 0) := by decide +kernel

theorem test_fe_c58 : field .feC58 (.feC58 ⟨ascii "PJ4/K1ABC"⟩) = some (.ok, 166563865821947300) ∧
    field .feC58 (.feC58 ⟨ascii "k1abc"⟩) = some (.ok, 132222118852965952) := by decide +kernel

theorem test_fe_c58_refused : exec .feC58 (withRecord (.feC58 ⟨ascii "A-B"⟩)) = .refused .charOutsideAlphabet := rfl

theorem test_fe_f71 : big .feF71 (.feF71 ⟨ascii "TNX BOB 73 GL"⟩) =
    some (.ok, [0x42, 0x3C, 0x41, 0x2E, 0x36, 0xD2, 0xBC, 0x32, 0x40]) := by decide +kernel

theorem test_fe_t71 : big .feT71 (.feT71 ⟨ascii "ABC"⟩) = some (.ok, [0, 0, 0, 0, 0, 0, 0, 0x0A, 0xBC]) := by decide +kernel

theorem test_fe_t71_clamp : big .feT71 (.feT71 ⟨List.replicate 18 0x46⟩) = some (.ok, 0x7F :: List.replicate 8 0xFF) := by
  decide +kernel

theorem test_fe_hash : field .feHash (.feHash ⟨ascii "K1ABC", 22⟩) = some (.ok, 2920267) ∧
    field .feHash (.feHash ⟨ascii "K1ABC", 16⟩) = some (.validationError, 0) := by decide +kernel

theorem test_fe_s7 : field .feS7 (.feS7 ⟨short (ascii "ema")⟩) = some (.ok, 10) ∧
    field .feS7 (.feS7 ⟨short (ascii "XX")⟩) = some (.ok, 0xFFFFFFFFFFFFFFFF) := by decide +kernel

theorem test_fe_state : field .feState (.feState ⟨short (ascii "MA")⟩) = some (.ok, 8021) ∧
    field .feState (.feState ⟨short (ascii "ZZ")⟩) = some (.ok, 0) := by decide +kernel

theorem test_fe_r2 : field .feR2 (.feR2 ⟨.rr73⟩) = some (.ok, 2) ∧ field .feR2 (.feR2 ⟨.other 4⟩) = some (.validationError, 0) := by
  decide +kernel

theorem test_fe_r3 : field .feR3 (.feR3 ⟨2⟩) = some (.ok, 0) ∧ field .feR3 (.feR3 ⟨9⟩) = some (.ok, 7) ∧
    field .feR3 (.feR3 ⟨1⟩) = some (.ok, 0) ∧ field .feR3 (.feR3 ⟨10⟩) = some (.ok, 0) := by decide +kernel

theorem test_fe_r5 : field .feR5 (.feR5 ⟨-40⟩) = some (.ok, 0) ∧ field .feR5 (.feR5 ⟨-17⟩) = some (.ok, 6) ∧
    field .feR5 (.feR5 ⟨-1⟩) = some (.ok, 14) ∧ field .feR5 (.feR5 ⟨50⟩) = some (.ok, 31) := by decide +kernel

theorem test_fe_k3 : field .feK3 (.feK3 ⟨0x46⟩) = some (.ok, 5) ∧ field .feK3 (.feK3 ⟨0x61⟩) = some (.ok, 0) := by decide +kernel

theorem test_fe_s11 : field .feS11 (.feS11 ⟨5000⟩) = some (.ok, 904) := by decide +kernel

/-! ## The payload packers (R289 to R299) -/

theorem test_ftx_free_text : packed .ftxFreeText (.ftxFreeText ⟨ascii "TNX BOB 73 GL"⟩) =
    some (.ok, [0x84, 0x78, 0x82, 0x5C, 0x6D, 0xA5, 0x78, 0x64, 0x80, 0x00]) := by decide +kernel

theorem test_ftx_dxped : packed .ftxDxped (.ftxDxped ⟨k1abc, w9xyz, ascii "KH1/KH7Z", -8⟩) =
    some (.ok, [0x09, 0xBD, 0xE3, 0x50, 0xC2, 0x93, 0xB8, 0x32, 0x56, 0x40]) := by decide +kernel

theorem test_ftx_field_day : packed .ftxFieldDay (.ftxFieldDay ⟨w9xyz, k1abc, false, 6, 0x41, short (ascii "EMA")⟩) =
    some (.ok, [0x0C, 0x29, 0x3B, 0x80, 0x9B, 0xDE, 0x35, 0x28, 0x16, 0xC0]) := by decide +kernel

theorem test_ftx_field_day_17 : packed .ftxFieldDay (.ftxFieldDay ⟨w9xyz, k1abc, true, 17, 0x46, short (ascii "DX")⟩) =
    some (.ok, [0x0C, 0x29, 0x3B, 0x80, 0x9B, 0xDE, 0x35, 0x85, 0xA9, 0x00]) := by decide +kernel

theorem test_ftx_telemetry : packed .ftxTelemetry (.ftxTelemetry ⟨ascii "123456789ABCDEF012"⟩) =
    some (.ok, [0x24, 0x68, 0xAC, 0xF1, 0x35, 0x79, 0xBD, 0xE0, 0x25, 0x40]) := by decide +kernel

theorem test_ftx_standard : packed .ftxStandard (.ftxStandard ⟨.cq, false, k1abc, false, false, .grid (short (ascii "FN42"))⟩) =
    some (.ok, [0x00, 0x00, 0x00, 0x20, 0x4D, 0xEF, 0x1A, 0x8A, 0x19, 0x88]) := by decide +kernel

theorem test_ftx_standard_r : packed .ftxStandard (.ftxStandard ⟨w9xyz, false, k1abc, false, true, .report (-9)⟩) =
    some (.ok, [0x0C, 0x29, 0x3B, 0x80, 0x4D, 0xEF, 0x1A, 0xBF, 0xAA, 0x88]) := by decide +kernel

theorem test_ftx_eu_vhf_2 :
    packed .ftxEuVhf2 (.ftxEuVhf2 ⟨.cq, false, .std (ascii "G4ABC"), true, false, .grid (short (ascii "IO91"))⟩) =
      some (.ok, [0x00, 0x00, 0x00, 0x20, 0x48, 0x60, 0xB3, 0x4F, 0x84, 0xD0]) := by decide +kernel

theorem test_ftx_rtty_ru : packed .ftxRttyRu (.ftxRttyRu ⟨true, w9xyz, k1abc, true, 7, .state (short (ascii "MA"))⟩) =
    some (.ok, [0x86, 0x14, 0x9D, 0xC0, 0x4D, 0xEF, 0x1A, 0xEF, 0xD5, 0x58]) := by decide +kernel

theorem test_ftx_nonstd : packed .ftxNonstd (.ftxNonstd ⟨ascii "W9XYZ", ascii "PJ4/K1ABC", false, .rrr, false⟩) =
    some (.ok, [0xF3, 0x19, 0x3F, 0x03, 0xD0, 0x5A, 0xEE, 0x96, 0x90, 0xA0]) := by decide +kernel

theorem test_ftx_eu_vhf_5 : packed .ftxEuVhf5 (.ftxEuVhf5 ⟨ascii "PA9XYZ", ascii "G4ABC/P", true, 7, 7, short (ascii "JO22DB")⟩) =
    some (.ok, [0x87, 0xBC, 0x8B, 0xE4, 0xF4, 0x03, 0xA6, 0xB8, 0x72, 0x68]) := by decide +kernel

/-! ## The register port -/

theorem test_port_issue : (match runActions (issue (.feS11 ⟨5000⟩) 0x2D) State.reset with
    | .next t => decide (t.result = 904)
    | _ => false) = true := by decide +kernel

/-- RegisterMapAccess: OPR before and after the host's write, and the last byte of FRAME and of B71. -/
theorem test_port_reads : portRead .host 0x10 0 State.reset = .next .unspecified ∧
    portRead .host 0x10 0 (withRecord (.feR3 ⟨9⟩)) = .next (.record (.feR3 ⟨9⟩)) ∧
    portRead .host 0x20 9 { State.reset with frame := #v[0, 0, 0, 0, 0, 0, 0, 0, 0, 0x81] } = .next (.number 0x81) ∧
    portRead .host 0x30 8 { State.reset with b71 := #v[0, 0, 0, 0, 0, 0, 0, 0, 0x42] } = .next (.number 0x42) := ⟨rfl, rfl, rfl, rfl⟩

/-- RegisterMapAccess: the last and the widest bit field of FRAME and of B71. -/
theorem witness_port_fields : [(16, 64), (79, 1), (72, 8)].all (fun f => decide (1 ≤ f.2 ∧ f.2 ≤ 64 ∧ f.1 + f.2 ≤ 80)) = true ∧
    [(8, 64), (71, 1), (64, 8)].all (fun f => decide (1 ≤ f.2 ∧ f.2 ≤ 64 ∧ f.1 + f.2 ≤ 72)) = true := by decide

theorem test_port_sym : portRead .player 0x40 0 State.reset = .fault (.symBeyondSeqLen 0) := rfl

/-! ## Witnesses: states and operands that meet the hypotheses of the statements, clause by clause, at the boundary values -/

/-- The operation answers a next state with this code. -/
def completesWith (c : StatusCode) (i : Instr) (s : State) : Bool := after (fun t => decide (t.status = c)) i s == some true

/-- A small machine: three symbols, four bytes of text, and a sequence of one symbol at hand. -/
def smallState : State :=
  { State.reset with
    cfg := { defaultConfig with symCap := 6, textMax := 4 }, seqMode := .rtty, seqLen := 1,
    sym := [{ freq := 0, dur := 1, on := true }], frame := Vector.replicate 10 0xFF }

/-- `smallState` with a record written. -/
def smallWith (r : OprRecord) : State := { smallState with opr := .record r }

/-- StepRunsDecodedCommand: a command that decodes, none, and the largest word. -/
theorem witness_step : (smallState.withFetchWord 8 0x48).cmd = some 0x48 ∧ decode 0x48 = .ok .ftxEuVhf5 ∧ smallState.cmd = none ∧
    (255 : Nat) < 256 := by decide

/-- IllegalOpcodeCompletes: both ends of every range. -/
theorem witness_illegal : [0x00, 0x04, 0x0F, 0x12, 0x1F, 0x2E, 0x3F, 0x49, 0xFF].all fun n =>
    decide ((smallState.withFetchWord 8 n).cmd = some (BitVec.ofNat 8 n)) && decide (n = 0x00 ∨ (0x04 ≤ n ∧ n ≤ 0x0F) ∨
      (0x12 ≤ n ∧ n ≤ 0x1F) ∨ (0x2E ≤ n ∧ n ≤ 0x3F) ∨ (0x49 ≤ n ∧ n ≤ 0xFF)) := by decide

/-- StepKeepsSequenceInvariant, ActionsKeepSequenceInvariant, RegisterMapAccess, SequenceCompletions: a state with a sequence, the two bounds
of the index, and a state whose sequence fills SYM_CAP. -/
theorem witness_invariant : SeqInv smallState ∧ SeqInv { smallState with seqLen := 6, sym := List.replicate 6 { freq := 0, dur := 1, on := true } } ∧
    smallState.sym[0]? = some { freq := 0, dur := 1, on := true } ∧ smallState.seqLen ≤ 1 :=
  ⟨⟨by decide, by decide, by unfold AllLast; decide⟩, ⟨by decide, by decide, by unfold AllLast; decide⟩, by decide, by decide⟩

/-- StepKeepsSequenceInvariant: steps that answer next, from a state with a sequence: an encoder, an error, no operation, no command. -/
theorem witness_invariant_steps : [(smallWith (.encCw ⟨ascii "EE E", 20, 7⟩)).withFetchWord 8 0x01, smallState.withFetchWord 8 0x03,
    smallState.withFetchWord 8 0x00, smallState].all fun s => (match step s with | .next t => decide (t.cmd = none) | _ => false) := by
  decide +kernel

/-- ActionsKeepSequenceInvariant, SequenceIsLeftAlone: a run of actions of each kind, and one that leaves the sequence alone. -/
theorem witness_actions : (match runActions (issue (.encRtty ⟨[], 45, 170, 1, false, false, 7⟩) 0x02 ++
        [.write .player (.seqCursor 9), .write .player (.seqRepeat true), .write .host (.other 0x0F), .reset]) smallState with
      | .next t => decide (t.seqCursor = 0 ∧ t.sym = []) | _ => false) = true ∧
    (match runActions (issue (.feS11 ⟨5000⟩) 0x2D ++ issue (.ftxFreeText ⟨[]⟩) 0x40 ++ [.write .host (.cmd 0x00)]) smallState with
      | .next t => decide (t.sym = smallState.sym) | _ => false) = true ∧
    isSequenceEncoder .feS11 = false ∧ isSequenceEncoder .ftxFreeText = false := by decide +kernel

/-- WriteRights, CompletionCodes, SequenceCompletions, OtherCompletions: completions of every family and every code. -/
theorem witness_completions :
    completesWith .ok .encCw (smallWith (.encCw ⟨ascii "EE E", 20, 7⟩)) ∧
    completesWith .allocationError .encCw (smallWith (.encCw ⟨ascii "EEEE", 20, 7⟩)) ∧
    completesWith .validationError .encCw (smallWith (.encCw ⟨ascii "E", 0, 7⟩)) ∧
    completesWith .ok .feS11 (smallWith (.feS11 ⟨0⟩)) ∧ completesWith .validationError .feC28 (smallWith (.feC28 ⟨.std []⟩)) ∧
    completesWith .ok .ftxFreeText (smallWith (.ftxFreeText ⟨[]⟩)) ∧
    completesWith .validationError .ftxStandard (smallWith (.ftxStandard ⟨.other 6, false, .cq, false, false, .blank⟩)) ∧
    completesWith .validationError .packBits (smallWith (.packBits ⟨0, 0, 0⟩)) ∧ completesWith .ok .unpackBits (smallWith (.unpackBits ⟨16, 64⟩)) ∧
    completesWith .ok .feT71 (smallWith (.feT71 ⟨[]⟩)) ∧ completesWith .validationError .feF71 (smallWith (.feF71 ⟨List.replicate 14 0x20⟩)) := by
  decide +kernel

/-- WriteRights: an opcode that names no operation. -/
theorem witness_no_operation : ∀ i, decode 0x49 ≠ .ok i := by intro i h; cases h

/-- ResultsDependOnOperandsOnly, CommandTwiceGivesTheSame: `smallWith` and this state agree on configuration, operands and FRAME alone. -/
def otherWith (r : OprRecord) : State := { smallWith r with status := .validationError, result := 9, sym := [], seqLen := 0 }

theorem witness_same_operands (r : OprRecord) : (otherWith r).cfg = (smallWith r).cfg ∧ (otherWith r).opr = (smallWith r).opr ∧
    (otherWith r).frame = (smallWith r).frame ∧ (otherWith r).seqLen ≠ (smallWith r).seqLen := ⟨rfl, rfl, rfl, Nat.zero_ne_one⟩

theorem witness_same_operands_run : completesWith .ok .feR2 (smallWith (.feR2 ⟨.rrr⟩)) ∧
    completesWith .validationError .packBits (smallWith (.packBits ⟨0, 0, 0⟩)) := by decide +kernel

/-- The reason an operation is refused for, if it is. -/
def refusedFor (x : Instr × OprRecord) : Option Refusal :=
  match exec x.1 (withRecord x.2) with
  | .refused r => some r
  | _ => none

/-- RefusalsAreExactlyThese: a refused input of every operation that has one. -/
theorem witness_refused :
    refusedFor (.encWspr, .encWspr ⟨short (ascii "PJ4/K1"), short (ascii "FN42"), 37, 0⟩) = some .wsprUnrepresentable ∧
    [(Instr.feC58, OprRecord.feC58 ⟨ascii "A-B"⟩), (.feF71, .feF71 ⟨ascii "a"⟩), (.feT71, .feT71 ⟨ascii "G"⟩), (.feHash, .feHash ⟨ascii "A-B", 10⟩),
      (.ftxFreeText, .ftxFreeText ⟨ascii "a"⟩), (.ftxTelemetry, .ftxTelemetry ⟨ascii "G"⟩), (.ftxDxped, .ftxDxped ⟨.de, .cq, ascii "A-B", 0⟩),
      (.ftxNonstd, .ftxNonstd ⟨[], ascii "A-B", false, .blank, false⟩), (.ftxNonstd, .ftxNonstd ⟨ascii "A-B", [], false, .blank, false⟩),
      (.ftxEuVhf5, .ftxEuVhf5 ⟨ascii "A-B", [], false, 0, 0, short []⟩), (.ftxEuVhf5, .ftxEuVhf5 ⟨[], ascii "A-B", false, 0, 0, short []⟩)].all
      (fun x => refusedFor x == some .charOutsideAlphabet) = true := by decide +kernel

/-- RefusalsAreExactlyThese: OPR after reset and with a record of another opcode, one with the same field list among them, holds no record for
the operation, and a command runs; StepRunsDecodedCommand: a record of the opcode's own is kept. -/
theorem witness_no_record : State.reset.opr.holds .encCw = false ∧ (withRecord (.feS11 ⟨7⟩)).opr.holds .feR3 = false ∧
    (withRecord (.feT71 ⟨[]⟩)).opr.holds .ftxTelemetry = false ∧ (withRecord (.feR3 ⟨9⟩)).opr.holds .feR3 = true ∧
    (∃ t, exec .feR3 State.reset = .next t) ∧ ∃ t, exec .feR3 (withRecord (.feS11 ⟨7⟩)) = .next t :=
  ⟨rfl, by decide, by decide, by decide, ⟨_, rfl⟩, ⟨_, rfl⟩⟩

/-- CwRejects, CwCompletes: the speeds 0, 1, 1200000 and 1200001, a text one byte too long, one code more than fits, and one that just fits. -/
theorem witness_cw :
    smallState.cfg.textMax < (ascii "EEEEE").length ∧ (0 : BitVec 32).toNat = 0 ∧ 1200000 < (1200001 : BitVec 32).toNat ∧
    1 ≤ (1 : BitVec 32).toNat ∧ (1200000 : BitVec 32).toNat ≤ 1200000 ∧ (ascii "EEEE").length ≤ smallState.cfg.textMax ∧
    (((ascii "EEEE").filterMap fun b => morseCode smallState.cfg (upper b)).map fun code => 2 * code.length).sum = 8 ∧
    (((ascii "EE E").filterMap fun b => morseCode smallState.cfg (upper b)).map fun code => 2 * code.length).sum = smallState.cfg.symCap ∧
    (∀ code ∈ smallState.cfg.morse.toList, code ≠ []) := by decide +kernel

/-- CwSequenceShape, CwSpacesAndSkips, CwParisTiming: an on and an off symbol, a character to skip, a space, a text without a code. -/
theorem witness_cw_shape :
    (cwSymbols defaultConfig 1 (ascii "E"))[0]? = some ⟨0, 1, true⟩ ∧ (cwSymbols defaultConfig 1 (ascii "E"))[1]? = some ⟨0, 1, false⟩ ∧
    upper 0x23 ≠ space ∧ morseCode defaultConfig (upper 0x23) = none ∧ (∀ b ∈ ascii " #", morseCode defaultConfig (upper b) = none) ∧
    defaultConfig.morse[4] = [MorseElem.dot] := by decide +kernel

/-- CwSpacesAndSkips: the ends of the ranges of encodable characters and of the folding. -/
theorem witness_cw_characters :
    morseCode defaultConfig 0x30 = defaultConfig.morse[26]? ∧ morseCode defaultConfig 0x39 = defaultConfig.morse[35]? ∧
    morseCode defaultConfig 0x41 = defaultConfig.morse[0]? ∧ morseCode defaultConfig 0x5A = defaultConfig.morse[25]? ∧
    [0x2F, 0x3A, 0x40, 0x5B, 0x61, 0xFF].all (fun n => morseCode defaultConfig (BitVec.ofNat 8 n) == none) = true ∧
    upper 0x61 = 0x41 ∧ upper 0x7A = 0x5A ∧ upper 0x60 = 0x60 ∧ upper 0x7B = 0x7B := by decide +kernel

/-- RttyRejects: one operand record for each cause, and a good one whose sequence does not fit. -/
theorem witness_rtty_rejects :
    (smallState.cfg.textMax < (ascii "AAAAA").length) ∧ (0 : Rat) ≤ 0 ∧
    ((1000000 : Rat) / 1000001).floor = 0 ∧ (((1 : Int) : Rat) * mkRat 1 2).floor = 0 ∧
    (2 ^ 32 - 1 < ((1000000 : Rat) / mkRat 1 4295).floor) ∧ (2 ^ 32 - 1 < (((1000000 : Int) : Rat) * 4295).floor) ∧
    rttyRejected ⟨ascii "A", 1, 170, 1, false, false, 0⟩ = false ∧ smallState.cfg.symCap < 7 * (rttyCodes smallState.cfg .letters (ascii "A")).length := by
  decide +kernel

/-- RttyCompletes, RttySequenceLaws: the shortest and the longest bit and stop bit. -/
theorem witness_rtty_completes :
    ((1000000 : Rat) / 1000000).floor = 1 ∧ ((1000000 : Rat) / mkRat 1000000 (2 ^ 32 - 1)).floor = 2 ^ 32 - 1 ∧
    (((1 : Int) : Rat) * 1).floor = 1 ∧ (((1 : Int) : Rat) * (2 ^ 32 - 1)).floor = 2 ^ 32 - 1 ∧ (0 : Rat) < 1000000 ∧
    7 * (rttyCodes defaultConfig .letters (ascii "A")).length ≤ defaultConfig.symCap ∧
    completesWith .ok .encRtty (withRecord (.encRtty ⟨ascii "A", 1000000, 170, 1, true, true, 0⟩)) := by decide +kernel

/-- RttyClassify: a letter, a control, a figure, an unencodable character. -/
theorem witness_rtty_classify :
    defaultConfig.ita2Letters[3]? = some (some (upper 0x61)) ∧ (∀ j : Nat, j < 3 → defaultConfig.ita2Letters[j]? ≠ some (some (upper 0x61))) ∧
    defaultConfig.ita2Letters[4]? = some (some (upper 0x20)) ∧ defaultConfig.ita2Figures[3]? = some (some (upper 0x2D)) ∧
    defaultConfig.ita2Letters.toList.contains (some (upper 0x2D)) = false ∧ (∀ j : Nat, j < 3 → defaultConfig.ita2Figures[j]? ≠ some (some (upper 0x2D))) ∧
    defaultConfig.ita2Letters.toList.contains (some (upper 0x23)) = false ∧ classify defaultConfig 0x2A = none := by decide +kernel

/-- RttyCodesPrintTheText, RttySequenceLaws: a character of each kind, and the two texts of R175 complete. -/
theorem witness_rtty_kinds :
    classify defaultConfig 0x61 = some (3, some .letters) ∧ classify defaultConfig 0x20 = some (4, none) ∧
    classify defaultConfig 0x2D = some (3, some .figures) ∧ (none : Option Shift) ≠ some .figures ∧
    after State.seqLen .encRtty (withRecord (.encRtty ⟨ascii " ", 45, 170, 1, false, false, 0⟩)) = some 7 ∧
    after State.seqLen .encRtty (withRecord (.encRtty ⟨ascii "a-", 45, 170, 1, false, false, 0⟩)) = some 21 := by decide +kernel

/-- RttyCodesPrintTheText: the default tables. -/
theorem witness_ita2 : ita2Consistent defaultConfig := by
  refine ⟨fun sh => by cases sh <;> decide, fun k c h hc => ?_⟩
  have hk : k < 32 := by
    by_contra hk
    rw [Vector.getElem?_eq_none (by omega)] at h
    cases h
  have : ∀ k : Fin 32, ∀ c : Byte, defaultConfig.ita2Letters[k.val]? = some (some c) → ita2Control c = true →
      defaultConfig.ita2Figures[k.val]? = some (some c) := by
    intro k c h hc
    have hm : c = 0x20 ∨ c = 0x0D ∨ c = 0x0A := by simpa [ita2Control, or_assoc] using hc
    rcases hm with rfl | rfl | rfl <;> revert h <;> revert k <;> decide +kernel
  exact this ⟨k, hk⟩ c h hc

/-- WsprRejects, WsprCompletes, WsprCallsignPacking, WsprGridPowerPacking: the ends of the lengths, the grids and the powers, a callsign that
is too short, no room, and representable forms with and without the leading space. -/
theorem witness_wspr :
    wsprValid ⟨short (ascii "A9"), short (ascii "AA00"), 0, 0⟩ = true ∧ wsprValid ⟨short (ascii "PJ4/K1"), short (ascii "RR99"), 60, 0⟩ = true ∧
    wsprValid ⟨short (ascii "A"), short (ascii "AA00"), 0, 0⟩ = false ∧ wsprValid ⟨short (ascii "A9"), short (ascii "SA00"), 0, 0⟩ = false ∧
    wsprValid ⟨short (ascii "A9"), short (ascii "AA00"), 1, 0⟩ = false ∧ smallState.cfg.symCap < 162 ∧ 162 ≤ State.reset.cfg.symCap ∧
    (isLetter 0x41 && isDigit 0x39) = true ∧ (isLetter 0x50 && isDigit 0x4A) = false ∧
    wsprRepresentable (wsprC6 (ascii "A9")) = true ∧ wsprRepresentable (ascii " Z9   ") = true ∧ wsprRepresentable (ascii "ZZ9ZZZ") = true ∧ (wsprC6 (ascii "K1ABCD")).length ≠ 6 ∧ wsprN (ascii " Z9   ") ≤ 262177559 := by
  decide +kernel

/-- WsprCompletes: it runs. -/
theorem witness_wspr_runs : completesWith .ok .encWspr (withRecord (.encWspr ⟨short (ascii "K1ABC"), short (ascii "FN42"), 37, 7⟩)) := by
  decide +kernel

/-- WsprPackedBuffer, ConvolutionalCode, InterleaverPermutes: the largest values and indices. -/
theorem witness_wspr_stages : 2 ^ 28 - 1 < 2 ^ 28 ∧ 2 ^ 22 - 1 < 2 ^ 22 ∧ (80 : Nat) < 81 ∧ 50 ≤ 80 ∧
    bitReverse8 0 < 162 ∧ bitReverse8 254 < 162 ∧ (List.replicate 162 true).length = 162 ∧ (7 : Nat) < 8 := by decide +kernel

/-- PackBitsResult, UnpackBitsResult, PackUnpackRoundTrip: widths 0, 1, 64, 65, the last legal offset and the first illegal one. -/
theorem witness_bits :
    [(0, 1), (16, 64), (79, 1)].all (fun f => fieldLegal f.1 f.2) ∧ [(0, 0), (0, 65), (17, 64), (80, 1), (255, 1)].all (fun f => !fieldLegal f.1 f.2) ∧
    (BitVec.ofNat 64 (2 ^ 64 - 1)).toNat < 2 ^ 64 ∧
    (79 : BitVec 8).toNat + (1 : BitVec 8).toNat ≤ 80 ∧ (1 : BitVec 64).toNat < 2 ^ (1 : BitVec 8).toNat ∧
    (16 : BitVec 8).toNat + (64 : BitVec 8).toNat ≤ 80 := by decide +kernel

/-- CallCellDomain, FeC28Result, C28RangesAndInjectivity: every form at both ends of its range, and just outside. -/
theorem witness_cells :
    [CallCell.std [0x41], .std (ascii "ZZ9ZZZ"), .cq, .de, .qrz, .cqMod (.num 0), .cqMod (.num 999), .cqMod (.lets (ascii "A")),
      .cqMod (.lets (ascii "ZZZZ")), .hash22 0, .hash22 4194303].all callCellOk = true ∧
    [CallCell.std [], .std (ascii "ABCDEFG"), .cqMod (.num 1000), .cqMod (.lets []), .cqMod (.lets (ascii "AAAAA")), .cqMod (.lets (ascii "a")),
      .hash22 4194304, .other 6, .cqMod (.other 2)].any callCellOk = false ∧
    defaultConfig.c28Radix1 = 36 ∧ canonicalCells (ascii "ZZ9ZZZ") = true ∧ canonicalCells (ascii " 00   ") = true ∧
    stdCanonical (ascii "K1ABC") = ascii " K1ABC" := by decide +kernel

/-- StandardCallsignForm: a digit in each of the first three places, and none. -/
theorem witness_standard_form : isDigit 0x31 = true ∧ stdCanonical (ascii "1A") = ascii "  1A  " ∧ stdCanonical (ascii "G4ABC") = ascii " G4ABC" ∧
    stdCanonical (ascii "PA9XYZ") = ascii "PA9XYZ" ∧ stdCanonical (ascii "ABCD9") = ascii "ABCD9 " := by decide +kernel

/-- FeG15Result, FeG25Result: the first and the last square, and one that is none. -/
theorem witness_grids : wsprGridOk (ascii "AA00") ∧ wsprGridOk (ascii "RR99") ∧ wsprGridOk (ascii "SA00") = false ∧
    g25 (ascii "RR99XX") = 18662399 ∧ g25 (ascii "AA00YA") = 0 := by decide +kernel

/-- FeC58Result, FeF71Result, FeT71Result, FeHashResult and the packers that use them: the longest strings, the empty one, and the radix. -/
theorem witness_strings :
    (ascii "PJ4/K1ABC99").length = 11 ∧ allIn a38 (upperText (ascii "pj4/K1ABC99")) = true ∧ (ascii "TNX BOB 73 GL").length = 13 ∧
    allIn a43 (ascii "TNX BOB 73 GL") = true ∧ allIn a43 [] = true ∧ 42 ≤ defaultConfig.f71Radix ∧ defaultConfig.f71Radix ^ 13 < 2 ^ 71 ∧
    (ascii "F23456789abcdef012").length = 18 ∧ (∀ c ∈ ascii "F23456789abcdef012", (0x30 ≤ c.toNat ∧ c.toNat ≤ 0x39) ∨ (0x41 ≤ c.toNat ∧ c.toNat ≤ 0x46) ∨ (0x61 ≤ c.toNat ∧ c.toNat ≤ 0x66)) ∧
    (callHash (ascii "K1ABC") 22).isSome = true ∧ hashWidthOk 10 ∧ hashWidthOk 12 ∧ hashWidthOk 22 := by decide +kernel

/-- LookupResults, FtxFieldDayFrame: the first and the last entry of each table, and an absent one. -/
theorem witness_tables :
    defaultConfig.arrlSections.toList.Nodup ∧ defaultConfig.rttyStates.toList.Nodup ∧
    defaultConfig.arrlSections[0]? = some (upperText (ascii "ab")) ∧ defaultConfig.arrlSections[83]? = some (ascii "DX") ∧
    ascii "XX" ∉ defaultConfig.arrlSections.toList ∧ ascii "ZZ" ∉ defaultConfig.rttyStates.toList ∧
    defaultConfig.rttyStates[0]? = some (ascii "AL") ∧ defaultConfig.s7FrameBias + 83 < 128 := by decide +kernel

/-- DomainErrors: a record outside its domain for every operation that has such a record. -/
theorem witness_domain :
    [(Instr.encCw, OprRecord.encCw ⟨ascii "EEEEE", 20, 0⟩), (.encRtty, .encRtty ⟨ascii "EEEEE", 45, 170, 1, false, false, 0⟩),
      (.packBits, .packBits ⟨255, 255, 0⟩), (.packBits, .packBits ⟨0, 0, 0⟩), (.unpackBits, .unpackBits ⟨0, 65⟩), (.feG15, .feG15 ⟨.other 6⟩),
      (.feR2, .feR2 ⟨.other 4⟩), (.feC28, .feC28 ⟨.other 6⟩), (.feC58, .feC58 ⟨List.replicate 12 0x41⟩), (.feF71, .feF71 ⟨List.replicate 14 0x41⟩),
      (.feT71, .feT71 ⟨List.replicate 19 0x41⟩), (.feHash, .feHash ⟨[], 11⟩), (.ftxFreeText, .ftxFreeText ⟨List.replicate 14 0x41⟩),
      (.ftxTelemetry, .ftxTelemetry ⟨List.replicate 19 0x41⟩), (.ftxDxped, .ftxDxped ⟨.cq, .cq, List.replicate 12 0x41, 0⟩),
      (.ftxFieldDay, .ftxFieldDay ⟨.cq, .cq, false, 33, 0x41, short (ascii "AB")⟩), (.ftxStandard, .ftxStandard ⟨.cq, false, .cq, false, false, .other 6⟩),
      (.ftxEuVhf2, .ftxEuVhf2 ⟨.other 6, false, .cq, false, false, .blank⟩), (.ftxRttyRu, .ftxRttyRu ⟨false, .cq, .cq, false, 5, .other 2⟩),
      (.ftxNonstd, .ftxNonstd ⟨[], [], false, .other 4, false⟩), (.ftxEuVhf5, .ftxEuVhf5 ⟨List.replicate 12 0x41, [], false, 5, 0, short []⟩)].all
      (fun x => completesWith .validationError x.1 (smallWith x.2)) = true := by decide +kernel

/-- The nine frame statements: a record in the domain of each packer, the two ends of `ntx` and both sides of its middle. -/
theorem witness_frames :
    [(Instr.ftxFreeText, OprRecord.ftxFreeText ⟨ascii "TNX BOB 73 GL"⟩), (.ftxTelemetry, .ftxTelemetry ⟨ascii "F23456789abcdef012"⟩),
      (.ftxDxped, .ftxDxped ⟨.cq, .cq, ascii "KH1/KH7Z", 0⟩), (.ftxFieldDay, .ftxFieldDay ⟨.cq, .de, false, 1, 0x41, short (ascii "AB")⟩),
      (.ftxFieldDay, .ftxFieldDay ⟨.cq, .de, false, 16, 0x46, short (ascii "DX")⟩), (.ftxFieldDay, .ftxFieldDay ⟨.cq, .de, false, 17, 0x41, short (ascii "AB")⟩),
      (.ftxFieldDay, .ftxFieldDay ⟨.cq, .de, false, 32, 0x41, short (ascii "AB")⟩), (.ftxStandard, .ftxStandard ⟨.cq, true, k1abc, true, true, .rr73⟩),
      (.ftxEuVhf2, .ftxEuVhf2 ⟨.cq, true, k1abc, true, true, .blank⟩), (.ftxRttyRu, .ftxRttyRu ⟨true, .cq, k1abc, true, 9, .serial 65535⟩),
      (.ftxRttyRu, .ftxRttyRu ⟨true, .cq, k1abc, true, 9, .state (short (ascii "dc"))⟩),
      (.ftxRttyRu, .ftxRttyRu ⟨true, .cq, k1abc, true, 9, .state (short (ascii "ZZ"))⟩),
      (.ftxNonstd, .ftxNonstd ⟨ascii "W9XYZ", ascii "PJ4/K1ABC", true, .s73, true⟩),
      (.ftxEuVhf5, .ftxEuVhf5 ⟨ascii "PA9XYZ", ascii "G4ABC/P", true, 9, 2047, short (ascii "JO22DB")⟩)].all
      (fun x => completesWith .ok x.1 (smallWith x.2)) = true ∧ smallState.cfg.ftxLayout.wf = true := by decide +kernel

end Sys2Proof.Tests
end

/-! # The state family: the invariant of the sequence, write rights, the step and the register map -/

namespace Sys2Proof.Machine

/-! ## The sequence invariant (R34) as a state predicate -/

@[simp] theorem allLast_nil : AllLast [] := by simp [AllLast]

theorem seqInv_of_empty {s : State} (hlen : s.seqLen = 0) (hsym : s.sym = []) : SeqInv s where
  len := by simp [hlen, hsym]
  cap := by simp [hlen]
  last := by simp [hsym]

/-- The invariant speaks of SEQ_LEN, SYM and the configuration only. -/
theorem SeqInv.congr {s t : State} (hs : SeqInv s) (hlen : t.seqLen = s.seqLen) (hsym : t.sym = s.sym) (hcfg : t.cfg = s.cfg) :
    SeqInv t where
  len := by rw [hlen, hsym, hs.len]
  cap := by rw [hlen, hcfg]; exact hs.cap
  last := by rw [hsym]; exact hs.last

theorem SeqInv.of_sameSequence {s t : State} (hs : SeqInv s) (hseq : SameSequence s t) (hcfg : t.cfg = s.cfg) : SeqInv t :=
  hs.congr hseq.len hseq.sym hcfg

theorem seqInv_completeSeq {S : List TxSymbol} {s : State} (m : SeqMode) (b : BitVec 32) (hcap : S.length ≤ s.cfg.symCap)
    (hlast : AllLast S) : SeqInv (completeSeq m b S s) := ⟨rfl, hcap, hlast⟩

theorem seqInv_errorCompletion_sequence (m : SeqMode) (b : BitVec 32) (c : StatusCode) (s : State) :
    SeqInv (errorCompletion (.sequence m b) c s) := seqInv_of_empty rfl rfl

theorem seqInv_resetWith (cfg : Config) : SeqInv (State.resetWith cfg) := seqInv_of_empty rfl rfl

/-- Settles O2: the sequence is empty after reset. -/
theorem resetHasSequenceInvariant : Obligations.ResetHasSequenceInvariant :=
  ⟨seqInv_resetWith, seqInv_resetWith _⟩

/-! ## What each family of operations writes (R37) -/

theorem failField_same (s : State) : SameOperands s (failField s) := errorCompletion_same _ _ _

theorem failPack_same (s : State) : SameOperands s (failPack s) := errorCompletion_same _ _ _

theorem illegalCommand_same (s : State) : SameOperands s (illegalCommand s) := errorCompletion_same _ _ _

theorem sequenceEncoder_writes {i : Instr} {s t : State} (hi : isSequenceEncoder i = true) (h : exec i s = .next t) :
    SameOperands s t ∧ t.result = 0 ∧ t.b71 = zeroB71 ∧ t.frame = s.frame := by
  have hout := exec_sequenceEncoder i s hi
  rw [h] at hout
  cases hout with
  | invalid m b => exact ⟨errorCompletion_same _ _ _, rfl, rfl, rfl⟩
  | noRoom m b => exact ⟨errorCompletion_same _ _ _, rfl, rfl, rfl⟩
  | done m b S => exact ⟨completeSeq_same _ _ _ _, rfl, rfl, rfl⟩

/-- The field encoders and `UNPACK_BITS` share this frame; what they leave in B71 differs. -/
theorem fieldEncoder_writes {i : Instr} {s t : State} (hi : isFieldEncoder i = true ∨ i = .unpackBits) (h : exec i s = .next t) :
    SameOperands s t ∧ t.frame = s.frame ∧ SameSequence s t := by
  have hout := exec_fieldEncoder i s hi
  rw [h] at hout
  cases hout with
  | failed => exact ⟨failField_same s, rfl, rfl, rfl, rfl, rfl, rfl, rfl⟩
  | value v => exact ⟨⟨rfl, rfl, rfl⟩, rfl, rfl, rfl, rfl, rfl, rfl, rfl⟩
  | big B => exact ⟨⟨rfl, rfl, rfl⟩, rfl, rfl, rfl, rfl, rfl, rfl, rfl⟩

theorem unpackBits_b71 {s t : State} (h : exec .unpackBits s = .next t) : t.b71 = zeroB71 := by
  simp only [exec, execUnpackBits] at h
  split at h
  · cases h; rfl
  · cases h; rfl

theorem frameWriter_writes {i : Instr} {s t : State} (hi : writesFrame i = true) (h : exec i s = .next t) :
    SameOperands s t ∧ t.result = 0 ∧ t.b71 = zeroB71 ∧ SameSequence s t := by
  have hout := exec_packer i s hi
  rw [h] at hout
  cases hout with
  | failed => exact ⟨failPack_same s, rfl, rfl, rfl, rfl, rfl, rfl, rfl, rfl⟩
  | frame F => exact ⟨⟨rfl, rfl, rfl⟩, rfl, rfl, rfl, rfl, rfl, rfl, rfl, rfl⟩

theorem exec_sameOperands {i : Instr} {s t : State} (h : exec i s = .next t) : SameOperands s t := by
  rcases instr_family i with hi | hi | hi
  · exact (sequenceEncoder_writes hi h).1
  · exact (fieldEncoder_writes hi h).1
  · exact (frameWriter_writes hi h).1

/-! ## Running an opcode, and one step (R26, R90, R355) -/

theorem runOpcode_of_decode {op : Byte} {i : Instr} (h : decode op = .ok i) (s : State) : runOpcode op s = exec i s := by
  rw [runOpcode, h]

theorem runOpcode_of_illegal {op : Byte} (h : ∀ i, decode op ≠ .ok i) (s : State) :
    runOpcode op s = .next (illegalCommand s) := by
  cases hd : decode op with
  | ok i => exact absurd hd (h i)
  | error e => rw [runOpcode, hd]

/-- All that a command can do when it completes: its operation, or the completion with ILLEGAL_COMMAND. -/
theorem runOpcode_cases {op : Byte} {s t : State} (h : runOpcode op s = .next t) :
    (∃ i, decode op = .ok i ∧ exec i s = .next t) ∨ t = illegalCommand s := by
  by_cases hd : ∃ i, decode op = .ok i
  · obtain ⟨i, hi⟩ := hd
    exact .inl ⟨i, hi, runOpcode_of_decode hi s ▸ h⟩
  · rw [runOpcode_of_illegal (not_exists.mp hd)] at h
    cases h
    exact .inr rfl

theorem step_of_cmd {s : State} {op : Byte} (h : s.cmd = some op) : step s = runOpcode op (clearCmd s) := by
  rw [step, h]

theorem step_of_no_cmd {s : State} (h : s.cmd = none) : step s = .next s := by
  rw [step, h]

theorem step_latchCmd (op : Byte) (s : State) : step (latchCmd op s) = runOpcode op (clearCmd s) := rfl

theorem withFetchWord_byte_opr (s : State) {w : Nat} (hw : w < 256) :
    (s.withFetchWord 8 w).opr = preparedOpr (BitVec.ofNat 8 w) s.opr := by
  rw [State.withFetchWord_opr, show w % 2 ^ 8 = w from Nat.mod_eq_of_lt hw]

/-- A record of the opcode's shape stays as it is (log entry 4). -/
theorem preparedOpr_of_holds {op : Byte} {i : Instr} {opr : Opr} (hop : decode op = .ok i) (hold : opr.holds i = true) :
    preparedOpr op opr = opr := by
  simp [preparedOpr, hop, hold]

/-- Settles O9: the write rights of each family, from the outcomes its operations can have. -/
theorem writeRights : Obligations.WriteRights := by
  refine ⟨fun i s t h => ⟨exec_sameOperands h, ?sequence, ?field, ?frame, ?unpack⟩, fun op s hop => runOpcode_of_illegal hop s⟩
  case sequence => exact fun hi => (sequenceEncoder_writes hi h).2
  case field => exact fun hi => (fieldEncoder_writes (.inl hi) h).2
  case frame => exact fun hi => (frameWriter_writes hi h).2
  case unpack =>
    rintro rfl
    exact ⟨unpackBits_b71 h, (fieldEncoder_writes (.inr rfl) h).2⟩

/-- Settles O3: CMD is taken and emptied, and the opcode placed where a step fetches stands in CMD with a record of its shape in OPR. -/
theorem stepRunsDecodedCommand : Obligations.StepRunsDecodedCommand := by
  refine ⟨fun s op i hcmd hop => ?_, fun s op i hop => ?_, fun s => step_of_no_cmd, fun s w hw => ⟨?_, fun i hop => ⟨?_, fun hold => ?_⟩⟩⟩
  · rw [step_of_cmd hcmd, runOpcode_of_decode hop]; rfl
  · rw [portWrite, step_latchCmd, runOpcode_of_decode hop]; rfl
  · rw [State.withFetchWord, show w % 2 ^ 8 = w from Nat.mod_eq_of_lt hw]; rfl
  · rw [withFetchWord_byte_opr s hw]
    exact holds_preparedOpr _ i _ hop
  · rw [withFetchWord_byte_opr s hw]
    exact preparedOpr_of_holds hop hold

/-! ## The CW sequence: its length is the needed capacity, and every symbol lasts (R143, R145) -/

/-- Every symbol of a transient list lasts; `allLast_cwStore` ties it to `AllLast`. -/
def DraftsLast (S : List Draft) : Prop := ∀ x ∈ S, 0 < x.dur

@[simp] theorem draftsLast_nil : DraftsLast [] := by simp [DraftsLast]

theorem DraftsLast.emit {S : List Draft} (hS : DraftsLast S) (f : Rat) {d : Nat} (on : Bool) (hd : 0 < d) :
    DraftsLast (emit S f d on) := by
  intro x hx
  rcases List.mem_append.mp hx with hx | hx
  · exact hS x hx
  · rw [List.mem_singleton.mp hx]; exact hd

theorem DraftsLast.extend {S : List Draft} (hS : DraftsLast S) (d : Nat) : DraftsLast (extend d S) := by
  induction S using List.reverseRecOn with
  | nil => exact hS
  | append_singleton S y _ =>
    rw [extend_append_singleton]
    intro x hx
    rcases List.mem_append.mp hx with hx | hx
    · exact hS x (List.mem_append_left _ hx)
    · have hy : 0 < y.dur := hS y (by simp)
      rw [List.mem_singleton.mp hx]
      exact Nat.add_pos_left hy d

@[simp] theorem length_cwElements (dot : Nat) (code : List MorseElem) (S : List Draft) :
    (cwElements dot code S).length = S.length + 2 * code.length := by
  induction code generalizing S with
  | nil => rfl
  | cons e r ih =>
    rw [cwElements, List.foldl_cons, ← cwElements, ih]
    simp
    omega

theorem draftsLast_cwElements {dot : Nat} (hdot : 0 < dot) (code : List MorseElem) {S : List Draft} (hS : DraftsLast S) :
    DraftsLast (cwElements dot code S) := by
  induction code generalizing S with
  | nil => exact hS
  | cons e r ih =>
    rw [cwElements, List.foldl_cons, ← cwElements]
    have hon : 0 < if e = .dot then dot else 3 * dot := by split <;> omega
    exact ih ((hS.emit 0 true hon).emit 0 false hdot)

theorem morseCode_space (cfg : Config) : morseCode cfg space = none := rfl

theorem cwNeeded_cons (cfg : Config) (b : Byte) (t : Text) : cwNeeded cfg (b :: t) = cwNeeded cfg [b] + cwNeeded cfg t := by
  simp [cwNeeded]

theorem cwNeeded_singleton_of_code {cfg : Config} {b : Byte} {code : List MorseElem} (h : morseCode cfg (upper b) = some code) :
    cwNeeded cfg [b] = 2 * code.length := by
  simp [cwNeeded, h]

theorem cwNeeded_singleton_of_none {cfg : Config} {b : Byte} (h : morseCode cfg (upper b) = none) : cwNeeded cfg [b] = 0 := by
  simp [cwNeeded, h]

/-- All that one text byte does to the symbol list: a space extends it at most, an encodable character appends its elements to the list or to
the list extended, any other character changes nothing. -/
theorem cwChar_syms (cfg : Config) (dot : Nat) (w : CwWork) (b : Byte) :
    (cwNeeded cfg [b] = 0 ∧ ((cwChar cfg dot w b).syms = w.syms ∨ (cwChar cfg dot w b).syms = extend (6 * dot) w.syms)) ∨
    ∃ code S, cwNeeded cfg [b] = 2 * code.length ∧ (S = w.syms ∨ S = extend (2 * dot) w.syms) ∧
      (cwChar cfg dot w b).syms = cwElements dot code S := by
  by_cases hsp : upper b = space
  · have hneed : cwNeeded cfg [b] = 0 := cwNeeded_singleton_of_none (hsp ▸ morseCode_space cfg)
    refine .inl ⟨hneed, ?_⟩
    by_cases hw : w.syms = []
    · exact .inl (by simp [cwChar, hsp, hw])
    · exact .inr (by simp [cwChar, hsp, hw])
  · cases hc : morseCode cfg (upper b) with
    | none => exact .inl ⟨cwNeeded_singleton_of_none hc, .inl (by simp [cwChar, hsp, hc])⟩
    | some code =>
      refine .inr ⟨code, if w.lastWasChar then extend (2 * dot) w.syms else w.syms, cwNeeded_singleton_of_code hc, ?_,
        by simp only [cwChar, hsp, hc, if_false]⟩
      cases w.lastWasChar with
      | true => exact .inr rfl
      | false => exact .inl rfl

theorem length_cwChar (cfg : Config) (dot : Nat) (w : CwWork) (b : Byte) :
    (cwChar cfg dot w b).syms.length = w.syms.length + cwNeeded cfg [b] := by
  obtain ⟨hneed, h | h⟩ | ⟨code, S, hneed, rfl | rfl, h⟩ := cwChar_syms cfg dot w b <;> simp [hneed, h]

theorem draftsLast_cwChar (cfg : Config) {dot : Nat} (hdot : 0 < dot) {w : CwWork} (hw : DraftsLast w.syms) (b : Byte) :
    DraftsLast (cwChar cfg dot w b).syms := by
  obtain ⟨_, h | h⟩ | ⟨code, S, _, rfl | rfl, h⟩ := cwChar_syms cfg dot w b
  · rw [h]; exact hw
  · rw [h]; exact hw.extend _
  · rw [h]; exact draftsLast_cwElements hdot code hw
  · rw [h]; exact draftsLast_cwElements hdot code (hw.extend _)

theorem length_foldl_cwChar (cfg : Config) (dot : Nat) (text : Text) (w : CwWork) :
    (text.foldl (cwChar cfg dot) w).syms.length = w.syms.length + cwNeeded cfg text := by
  induction text generalizing w with
  | nil => rfl
  | cons b t ih => rw [List.foldl_cons, ih, length_cwChar, cwNeeded_cons cfg b t, Nat.add_assoc]

theorem length_cwSymbols (cfg : Config) (dot : Nat) (text : Text) : (cwSymbols cfg dot text).length = cwNeeded cfg text := by
  rw [cwSymbols, length_foldl_cwChar]
  simp

theorem draftsLast_foldl_cwChar (cfg : Config) {dot : Nat} (hdot : 0 < dot) (text : Text) {w : CwWork} (hw : DraftsLast w.syms) :
    DraftsLast (text.foldl (cwChar cfg dot) w).syms := by
  induction text generalizing w with
  | nil => exact hw
  | cons b t ih => exact ih (draftsLast_cwChar cfg hdot hw b)

theorem draftsLast_cwSymbols (cfg : Config) {dot : Nat} (hdot : 0 < dot) (text : Text) : DraftsLast (cwSymbols cfg dot text) :=
  draftsLast_foldl_cwChar cfg hdot text draftsLast_nil

/-- Storing keeps every duration above 0, also one that does not fit 32 bits (log entry 5). -/
theorem allLast_cwStore (cfg : Config) (o : EncCwOpr) {S : List Draft} (hS : DraftsLast S) : AllLast (cwStore cfg o S) := by
  intro y hy
  obtain ⟨i, hi⟩ := List.mem_iff_getElem?.mp hy
  rw [getElem?_cwStore, Option.map_eq_some_iff] at hi
  obtain ⟨x, hx, rfl⟩ := hi
  exact storeDur_pos _ _ (hS x (List.mem_of_getElem? hx))

theorem cwDot_pos_of_not_rejected {wpm : Nat} (h : cwRejected wpm = false) : 0 < cwDot wpm := by
  simp only [cwRejected, Bool.or_eq_false_iff, decide_eq_false_iff_not] at h
  exact Nat.pos_of_ne_zero h.2

theorem seqInv_execEncCw {s t : State} (h : execEncCw s = .next t) : SeqInv t := by
  simp only [execEncCw] at h
  split at h
  · cases h; exact seqInv_errorCompletion_sequence _ _ _ _
  next hvalid =>
    split at h
    · cases h; exact seqInv_errorCompletion_sequence _ _ _ _
    next hroom =>
      simp only [Bool.or_eq_true, not_or, Bool.not_eq_true] at hvalid
      obtain ⟨_, haccepted⟩ := hvalid
      have hdot : 0 < cwDot s.opr.encCw.wpm.toNat := cwDot_pos_of_not_rejected haccepted
      cases h
      refine seqInv_completeSeq _ _ ?_ (allLast_cwStore _ _ (draftsLast_cwSymbols _ hdot _))
      rw [length_cwStore, length_cwSymbols]
      exact Nat.le_of_not_lt hroom

/-! ## The RTTY sequence: seven symbols per code, and every symbol lasts (R168, R169) -/

@[simp] theorem length_rttyCodeSymbols (mark space : Rat) (bitDur stopDur : Nat) (k : BitVec 5) :
    (rttyCodeSymbols mark space bitDur stopDur k).length = 7 := by simp [rttyCodeSymbols]

@[simp] theorem length_rttySymbols (o : EncRttyOpr) (codes : List (BitVec 5)) : (rttySymbols o codes).length = 7 * codes.length := by
  simp [rttySymbols, List.length_flatMap, Nat.mul_comm]

theorem dur_rttyCodeSymbols {mark space : Rat} {bitDur stopDur : Nat} {k : BitVec 5} {y : TxSymbol}
    (hy : y ∈ rttyCodeSymbols mark space bitDur stopDur k) : y.dur = BitVec.ofNat 32 bitDur ∨ y.dur = BitVec.ofNat 32 stopDur := by
  simp only [rttyCodeSymbols, List.mem_append, List.mem_cons, List.mem_map, List.not_mem_nil, or_false] at hy
  obtain (rfl | ⟨i, _, rfl⟩) | rfl := hy
  · exact .inl rfl
  · exact .inl rfl
  · exact .inr rfl

theorem toNat_ofNat_pos {d : Nat} (hpos : 0 < d) (hfit : d ≤ 2 ^ 32 - 1) : 0 < (BitVec.ofNat 32 d).toNat := by
  rw [BitVec.toNat_ofNat, Nat.mod_eq_of_lt (by omega)]
  exact hpos

/-- What R168 leaves standing: both durations are above 0 and fit 32 bits. -/
theorem rttyDurations_of_not_rejected {o : EncRttyOpr} (h : rttyRejected o = false) :
    0 < (BitVec.ofNat 32 (rttyBitDur o.baudRate)).toNat ∧
      0 < (BitVec.ofNat 32 (rttyStopDur (rttyBitDur o.baudRate) o.stopBits)).toNat := by
  simp only [rttyRejected, Bool.or_eq_false_iff, decide_eq_false_iff_not, Nat.not_lt] at h
  obtain ⟨⟨⟨⟨_, hbit⟩, hstop⟩, hbitFits⟩, hstopFits⟩ := h
  exact ⟨toNat_ofNat_pos (Nat.pos_of_ne_zero hbit) hbitFits, toNat_ofNat_pos (Nat.pos_of_ne_zero hstop) hstopFits⟩

theorem allLast_rttySymbols {o : EncRttyOpr} (h : rttyRejected o = false) (codes : List (BitVec 5)) : AllLast (rttySymbols o codes) := by
  obtain ⟨hbit, hstop⟩ := rttyDurations_of_not_rejected h
  intro y hy
  obtain ⟨k, _, hk⟩ := List.mem_flatMap.mp hy
  rcases dur_rttyCodeSymbols hk with hd | hd
  · rw [hd]; exact hbit
  · rw [hd]; exact hstop

theorem seqInv_execEncRtty {s t : State} (h : execEncRtty s = .next t) : SeqInv t := by
  simp only [execEncRtty] at h
  split at h
  · cases h; exact seqInv_errorCompletion_sequence _ _ _ _
  next hvalid =>
    split at h
    · cases h; exact seqInv_errorCompletion_sequence _ _ _ _
    next hroom =>
      simp only [Bool.or_eq_true, not_or, Bool.not_eq_true] at hvalid
      obtain ⟨_, haccepted⟩ := hvalid
      cases h
      refine seqInv_completeSeq _ _ ?_ (allLast_rttySymbols haccepted _)
      rw [length_rttySymbols]
      exact Nat.le_of_not_lt hroom

/-! ## The WSPR sequence: 162 symbols of 682667 microseconds (R212, R213, R216) -/

theorem allLast_map_wsprSymbol (tones : List Nat) : AllLast (tones.map wsprSymbol) := by
  intro y hy
  obtain ⟨tone, _, rfl⟩ := List.mem_map.mp hy
  show 0 < (682667 : BitVec 32).toNat
  decide

theorem seqInv_execEncWspr {s t : State} (h : execEncWspr s = .next t) : SeqInv t := by
  simp only [execEncWspr] at h
  split at h
  · cases h; exact seqInv_errorCompletion_sequence _ _ _ _
  · split at h
    · cases h; exact seqInv_errorCompletion_sequence _ _ _ _
    next hroom =>
      split at h
      · cases h
      · cases h
        refine seqInv_completeSeq _ _ ?_ (allLast_map_wsprSymbol _)
        rw [List.length_map, Vector.length_toList]
        exact Nat.le_of_not_lt hroom

/-! ## Every operation, every step and every action keeps the invariant -/

/-- A sequence encoder establishes the invariant, whatever sequence stood before. -/
theorem seqInv_of_sequenceEncoder {i : Instr} {s t : State} (hi : isSequenceEncoder i = true) (h : exec i s = .next t) : SeqInv t := by
  cases i with
  | encCw => exact seqInv_execEncCw h
  | encRtty => exact seqInv_execEncRtty h
  | encWspr => exact seqInv_execEncWspr h
  | _ => exact absurd hi (by decide)

theorem exec_keeps_seqInv {i : Instr} {s t : State} (hs : SeqInv s) (h : exec i s = .next t) : SeqInv t := by
  have hcfg : t.cfg = s.cfg := (exec_sameOperands h).cfg
  rcases instr_family i with hi | hi | hi
  · exact seqInv_of_sequenceEncoder hi h
  · obtain ⟨_, _, hseq⟩ := fieldEncoder_writes hi h
    exact hs.of_sameSequence hseq hcfg
  · obtain ⟨_, _, _, hseq⟩ := frameWriter_writes hi h
    exact hs.of_sameSequence hseq hcfg

theorem runOpcode_sameOperands {op : Byte} {s t : State} (h : runOpcode op s = .next t) : SameOperands s t := by
  obtain ⟨i, _, hi⟩ | rfl := runOpcode_cases h
  · exact exec_sameOperands hi
  · exact illegalCommand_same s

theorem runOpcode_keeps_seqInv {op : Byte} {s t : State} (hs : SeqInv s) (h : runOpcode op s = .next t) : SeqInv t := by
  obtain ⟨i, _, hi⟩ | rfl := runOpcode_cases h
  · exact exec_keeps_seqInv hs hi
  · exact hs.congr rfl rfl rfl

/-- Settles O7: the opcode runs on the state with CMD emptied, which keeps the invariant, the configuration and the operands. -/
theorem stepKeepsSequenceInvariant : Obligations.StepKeepsSequenceInvariant := by
  intro s t hs h
  cases hcmd : s.cmd with
  | none =>
    rw [step_of_no_cmd hcmd] at h
    cases h
    exact ⟨hs, rfl, rfl, hcmd⟩
  | some op =>
    rw [step_of_cmd hcmd] at h
    obtain ⟨hcfg, hnone, hopr⟩ := runOpcode_sameOperands h
    have hclear : SeqInv (clearCmd s) := hs.congr rfl rfl rfl
    exact ⟨runOpcode_keeps_seqInv hclear h, hcfg, hopr, hnone⟩

/-- All that a register write can do when it is taken: run a step of the engine, or change a register that the invariant does not speak of. -/
theorem portWrite_cases {a : Agent} {w : PortWrite} {s t : State} (h : portWrite a w s = .next t) :
    (∃ op, w = .cmd op ∧ step (latchCmd op s) = .next t) ∨
      (t.seqLen = s.seqLen ∧ t.sym = s.sym ∧ t.cfg = s.cfg) := by
  cases w with
  | cmd op => cases a with
    | host => exact .inl ⟨op, rfl, h⟩
    | player => cases h
  | opr r => cases a with
    | host => cases h; exact .inr ⟨rfl, rfl, rfl⟩
    | player => cases h
  | seqCursor n => cases h; exact .inr ⟨rfl, rfl, rfl⟩
  | seqRepeat b => cases h; exact .inr ⟨rfl, rfl, rfl⟩
  | other reg => cases a with
    | host =>
      simp only [portWrite] at h
      split at h
      · cases h; exact .inr ⟨rfl, rfl, rfl⟩
      · split at h <;> cases h
    | player => cases h

theorem portWrite_keeps_seqInv {a : Agent} {w : PortWrite} {s t : State} (hs : SeqInv s) (h : portWrite a w s = .next t) :
    SeqInv t ∧ t.cfg = s.cfg := by
  obtain ⟨op, rfl, hstep⟩ | ⟨hlen, hsym, hcfg⟩ := portWrite_cases h
  · have hlatch : SeqInv (latchCmd op s) := hs.congr rfl rfl rfl
    obtain ⟨hinv, hcfg, _⟩ := stepKeepsSequenceInvariant _ _ hlatch hstep
    exact ⟨hinv, hcfg⟩
  · exact ⟨hs.congr hlen hsym hcfg, hcfg⟩

theorem act_keeps_seqInv {x : Action} {s t : State} (hs : SeqInv s) (h : act s x = .next t) : SeqInv t ∧ t.cfg = s.cfg := by
  cases x with
  | write a w => exact portWrite_keeps_seqInv hs h
  | reset => cases h; exact ⟨seqInv_resetWith _, rfl⟩

/-- The first action of a run that reaches a state has a next state, from which the rest of the run reaches it. -/
theorem runActions_cons {x : Action} {xs : List Action} {s t : State} (h : runActions (x :: xs) s = .next t) :
    ∃ u, act s x = .next u ∧ runActions xs u = .next t := by
  cases hx : act s x with
  | next u => exact ⟨u, rfl, by rwa [runActions, hx] at h⟩
  | fault r => rw [runActions, hx] at h; cases h
  | refused r => rw [runActions, hx] at h; cases h

/-- Settles O8, by induction on the actions. -/
theorem actionsKeepSequenceInvariant : Obligations.ActionsKeepSequenceInvariant := by
  intro acts
  induction acts with
  | nil =>
    intro s t hs h
    cases h
    exact ⟨hs, rfl⟩
  | cons x xs ih =>
    intro s t hs h
    obtain ⟨u, hx, hrest⟩ := runActions_cons h
    obtain ⟨hu, hcfgU⟩ := act_keeps_seqInv hs hx
    obtain ⟨ht, hcfgT⟩ := ih u t hu hrest
    exact ⟨ht, hcfgT.trans hcfgU⟩

/-! ## The register map (R36) -/

/-- Eight bits from a byte boundary are the byte: the two views of a buffer are one copy (R63, R71). -/
theorem bufRead_byte {n : Nat} (B : Buf n) (i : Nat) : bufRead B (8 * i) 8 = (B[i]?.getD 0).toNat := by
  apply Nat.eq_of_testBit_eq
  intro j
  rw [testBit_bufRead, BitVec.testBit_toNat]
  by_cases hj : j < 8
  · rw [bufBit, show (8 * i + 8 - 1 - j) / 8 = i by omega, show 7 - (8 * i + 8 - 1 - j) % 8 = j by omega]
    simp [hj]
  · rw [BitVec.getLsbD_of_ge _ _ (by omega)]
    simp [hj]

theorem portReadFrameField_legal {off w : Nat} (h1 : 1 ≤ w) (h64 : w ≤ 64) (h80 : off + w ≤ 80) (s : State) :
    portReadFrameField off w s = .next (.number (bufRead s.frame off w)) := if_pos ⟨h1, h64, h80⟩

theorem portReadB71Field_legal {off w : Nat} (h1 : 1 ≤ w) (h64 : w ≤ 64) (h72 : off + w ≤ 72) (s : State) :
    portReadB71Field off w s = .next (.number (bufRead s.b71 off w)) := if_pos ⟨h1, h64, h72⟩

theorem portRead_frame {i : Nat} {s : State} {b : Byte} (h : s.frame[i]? = some b) :
    portRead .host 0x20 i s = .next (.number b.toNat) := by
  simp only [portRead, h]

theorem portRead_b71 {i : Nat} {s : State} {b : Byte} (h : s.b71[i]? = some b) :
    portRead .host 0x30 i s = .next (.number b.toNat) := by
  simp only [portRead, h]

theorem portReadFrameField_byte {i : Nat} (hi : i < 10) (s : State) :
    portReadFrameField (8 * i) 8 s = portRead .host 0x20 i s := by
  have hbyte : s.frame[i]? = some s.frame[i] := by simp [hi]
  rw [portReadFrameField_legal (by omega) (by omega) (by omega), bufRead_byte, portRead_frame hbyte, hbyte, Option.getD_some]

theorem portReadB71Field_byte {i : Nat} (hi : i < 9) (s : State) :
    portReadB71Field (8 * i) 8 s = portRead .host 0x30 i s := by
  have hbyte : s.b71[i]? = some s.b71[i] := by simp [hi]
  rw [portReadB71Field_legal (by omega) (by omega) (by omega), bufRead_byte, portRead_b71 hbyte, hbyte, Option.getD_some]

/-- The number a field read answers fits the width, and bit `w - 1 - k` of it is buffer bit `off + k` (R66). -/
theorem bufRead_spec {n : Nat} (B : Buf n) (off w : Nat) :
    bufRead B off w < 2 ^ w ∧ ∀ k, k < w → (bufRead B off w).testBit (w - 1 - k) = bufBit B (off + k) := by
  refine ⟨bufRead_lt B off w, fun k hk => ?_⟩
  rw [testBit_bufRead, show off + w - 1 - (w - 1 - k) = off + k by omega]
  simp [show w - 1 - k < w by omega]

theorem portRead_sym_beyond {i : Nat} {s : State} (a : Agent) (h : s.seqLen ≤ i) :
    portRead a 0x40 i s = .fault (.symBeyondSeqLen i) := by
  simp only [portRead, if_neg (Nat.not_lt.mpr h)]

theorem portRead_sym {i : Nat} {s : State} {y : TxSymbol} (a : Agent) (hs : SeqInv s) (h : s.sym[i]? = some y) :
    portRead a 0x40 i s = .next (.symbol y) := by
  have hi : i < s.seqLen := by
    rw [hs.len]
    exact (List.getElem?_eq_some_iff.mp h).1
  simp only [portRead, if_pos hi, h]

/-- The five registers of the sequence header, the same for both agents (R31, R32). -/
theorem portRead_header (a : Agent) (s : State) :
    portRead a 0x03 0 s = .next (.number (seqModeWord s.seqMode).toNat) ∧ portRead a 0x04 0 s = .next (.number s.seqBase.toNat) ∧
      portRead a 0x05 0 s = .next (.number s.seqLen) ∧ portRead a 0x06 0 s = .next (.number s.seqCursor) ∧
      portRead a 0x07 0 s = .next (.number s.seqRepeat.toNat) := by
  cases a <;> exact ⟨rfl, rfl, rfl, rfl, rfl⟩

/-- The register numbers `0x08` to `0x0F` are reserved: they read as zero and ignore writes (R36). -/
theorem portAccess_reserved {n : Nat} (hlo : 0x08 ≤ n) (hhi : n ≤ 0x0F) (s : State) :
    portRead .host n 0 s = .next (.number 0) ∧ portWrite .host (.other n) s = .next s := by
  refine ⟨?_, if_pos ⟨hlo, hhi⟩⟩
  interval_cases n <;> rfl

/-- Settles O17: each clause is the read or the write of one register or window. -/
theorem registerMapAccess : Obligations.RegisterMapAccess := by
  refine ⟨fun a i s h => portRead_sym_beyond a h, fun a i s y hs h => portRead_sym a hs h, fun a s => ?header, fun s => ?results,
    fun r s => ⟨rfl, fun h => ?operands⟩, fun i s => ⟨fun b => portRead_frame, fun b => portRead_b71,
      fun hi => portReadFrameField_byte hi s, fun hi => portReadB71Field_byte hi s⟩,
    fun off w s h1 h64 => ⟨fun h80 => ⟨_, portReadFrameField_legal h1 h64 h80 s, bufRead_spec _ _ _⟩,
      fun h72 => ⟨_, portReadB71Field_legal h1 h64 h72 s, bufRead_spec _ _ _⟩⟩,
    fun n s hlo hhi => portAccess_reserved hlo hhi s, fun a n b s => ?cursor, fun op r s => ⟨rfl, rfl⟩, fun n s _ => rfl⟩
  case header =>
    obtain ⟨hmode, hrest⟩ := portRead_header a s
    refine ⟨hmode.trans ?_, hrest⟩
    cases s.seqMode <;> rfl
  case results =>
    have hstatus : portRead .host 0x01 0 s = .next (.number (statusWord s.status).toNat) := rfl
    refine ⟨hstatus.trans ?_, rfl, rfl⟩
    cases s.status <;> rfl
  case operands => simp only [portRead, h]
  case cursor => cases a <;> exact ⟨rfl, rfl⟩

end Sys2Proof.Machine

/-! # The memory family: the same command on the same operands (R72, R331) -/

namespace Sys2Proof.Machine

/-! ## What is written twice (R67, R132 to R134, R330) -/

/-- Writing a field the second time changes no bit. -/
theorem bufWrite_bufWrite_same {n : Nat} (B : Buf n) {off w : Nat} (v : Nat) (h : off + w ≤ 8 * n) :
    bufWrite (bufWrite B off w v) off w v = bufWrite B off w v := by
  apply buf_ext_bits
  intro k _
  rw [bufBit_bufWrite _ _ _ _ _ h]
  split
  next hin => rw [bufBit_bufWrite _ _ _ _ _ h, if_pos hin]
  · rfl

theorem completePack_completePack (F : Buf 10) (s : State) : completePack F (completePack F s) = completePack F s := rfl

theorem errorCompletion_errorCompletion (fam : Family) (c : StatusCode) (s : State) :
    errorCompletion fam c (errorCompletion fam c s) = errorCompletion fam c s := by
  cases fam <;> rfl

/-! ## The answer of an operation depends on what it reads (R72, R309) -/

/-- One answer given in two states: the same update, which done a second time changes nothing more, or the same refusal. -/
def SameAnswer (s s' : State) (out out' : Host.Outcome State Fault Refusal) : Prop :=
  (∃ u : State → State, (∀ x, u (u x) = u x) ∧ out = .next (u s) ∧ out' = .next (u s')) ∨ ∃ r, out = .refused r ∧ out' = .refused r

theorem SameAnswer.of_update {s s' : State} (u : State → State) (hu : ∀ x, u (u x) = u x) :
    SameAnswer s s' (.next (u s)) (.next (u s')) := .inl ⟨u, hu, rfl, rfl⟩

theorem SameAnswer.sequence {s s' : State} (m : SeqMode) (b : BitVec 32) (S : List TxSymbol) :
    SameAnswer s s' (.next (completeSeq m b S s)) (.next (completeSeq m b S s')) :=
  .of_update (completeSeq m b S) fun _ => rfl

theorem SameAnswer.error {s s' : State} (fam : Family) (c : StatusCode) :
    SameAnswer s s' (.next (errorCompletion fam c s)) (.next (errorCompletion fam c s')) :=
  .of_update (errorCompletion fam c) (errorCompletion_errorCompletion fam c)

theorem SameAnswer.field {s s' : State} (v : BitVec 64) : SameAnswer s s' (.next (completeField v s)) (.next (completeField v s')) :=
  .of_update (completeField v) fun _ => rfl

theorem SameAnswer.big {s s' : State} (B : Buf 9) : SameAnswer s s' (.next (completeB71 B s)) (.next (completeB71 B s')) :=
  .of_update (completeB71 B) fun _ => rfl

theorem SameAnswer.frame {s s' : State} (F : Buf 10) : SameAnswer s s' (.next (completePack F s)) (.next (completePack F s')) :=
  .of_update (completePack F) (completePack_completePack F)

theorem SameAnswer.refused {s s' : State} (r : Refusal) : SameAnswer s s' (.refused r) (.refused r) := .inr ⟨r, rfl, rfl⟩

/-- The same answer in the state it led to leads there again. -/
theorem SameAnswer.next_again {s t : State} {out out' : Host.Outcome State Fault Refusal} (h : SameAnswer s t out out')
    (hout : out = .next t) : out' = .next t := by
  obtain ⟨u, hu, rfl, rfl⟩ | ⟨r, rfl, rfl⟩ := h
  · have ht : u s = t := Host.Outcome.next.inj hout
    rw [← ht, hu]
  · cases hout

/-- Configuration and OPR, and FRAME for the two bit-field operations, determine the answer of an operation; the cases are grouped by the
completions their operations can have. -/
theorem exec_sameAnswer (i : Instr) {s s' : State} (hcfg : s'.cfg = s.cfg) (hopr : s'.opr = s.opr)
    (hframe : i = .packBits ∨ i = .unpackBits → s'.frame = s.frame) : SameAnswer s s' (exec i s) (exec i s') := by
  cases i
  case encCw | encRtty =>
    simp only [exec, execEncCw, execEncRtty, hcfg, hopr]
    split
    · exact .error _ _
    · split
      · exact .error _ _
      · exact .sequence _ _ _
  case encWspr =>
    simp only [exec, execEncWspr, hcfg, hopr]
    split
    · exact .error _ _
    · split
      · exact .error _ _
      · split
        · exact .refused _
        · exact .sequence _ _ _
  case packBits =>
    simp only [exec, execPackBits, hopr, hframe (.inl rfl)]
    split
    · exact .error _ _
    · exact .frame _
  case unpackBits =>
    simp only [exec, execUnpackBits, hopr, hframe (.inr rfl)]
    split
    · exact .error _ _
    · exact .field _
  case feC28 | feG15 | feR2 =>
    simp only [exec, execFeC28, execFeG15, execFeR2, hcfg, hopr]
    split
    · exact .error _ _
    · exact .field _
  case feG25 | feS7 | feState | feR3 | feR5 | feK3 | feS11 =>
    simp only [exec, execFeG25, execFeS7, execFeState, execFeR3, execFeR5, execFeK3, execFeS11, hcfg, hopr]
    exact .field _
  case feC58 | feHash =>
    simp only [exec, execFeC58, execFeHash, hopr]
    split
    · exact .error _ _
    · split
      · exact .field _
      · exact .refused _
  case feF71 | feT71 =>
    simp only [exec, execFeF71, execFeT71, hcfg, hopr]
    split
    · exact .error _ _
    · split
      · exact .big _
      · exact .refused _
  case ftxFieldDay | ftxStandard | ftxEuVhf2 | ftxRttyRu =>
    simp only [exec, execFtxFieldDay, execFtxStandard, execFtxEuVhf2, execFtxRttyRu, hcfg, hopr]
    split
    · exact .error _ _
    · exact .frame _
  case ftxFreeText | ftxTelemetry | ftxDxped | ftxNonstd | ftxEuVhf5 =>
    simp only [exec, execFtxFreeText, execFtxTelemetry, execFtxDxped, execFtxNonstd, execFtxEuVhf5, hcfg, hopr]
    split
    · exact .error _ _
    · split
      · exact .frame _
      · exact .refused _

/-! ## The same command again -/

/-- An operation that does not read FRAME, or left it as it was, answers in its next state what it answered before. -/
theorem exec_again_of_frame {i : Instr} {s t : State} (hframe : i = .packBits ∨ i = .unpackBits → t.frame = s.frame)
    (h : exec i s = .next t) : exec i t = .next t := by
  obtain ⟨hcfg, _, hopr⟩ := exec_sameOperands h
  exact (exec_sameAnswer i hcfg hopr hframe).next_again h

theorem off_add_width_le_of_fieldLegal {off w : Nat} (h : fieldLegal off w = true) : off + w ≤ 8 * 10 := by
  simp only [fieldLegal, Bool.and_eq_true, decide_eq_true_eq] at h
  exact h.2

theorem execPackBits_of_illegal {s : State} (h : fieldLegal s.opr.packBits.off.toNat s.opr.packBits.width.toNat = false) :
    execPackBits s = .next (errorCompletion .packer .validationError s) := by
  rw [execPackBits, h]; rfl

theorem execPackBits_of_legal {s : State} (h : fieldLegal s.opr.packBits.off.toNat s.opr.packBits.width.toNat = true) :
    execPackBits s = .next (completePack
      (bufWrite s.frame s.opr.packBits.off.toNat s.opr.packBits.width.toNat s.opr.packBits.value.toNat) s) := by
  rw [execPackBits, h]; rfl

/-- `PACK_BITS` reads the FRAME it writes: the field already holds the value the second time. -/
theorem execPackBits_again {s t : State} (h : execPackBits s = .next t) : execPackBits t = .next t := by
  cases hlegal : fieldLegal s.opr.packBits.off.toNat s.opr.packBits.width.toNat with
  | false =>
    rw [execPackBits_of_illegal hlegal] at h
    cases h
    rw [execPackBits_of_illegal (s := errorCompletion .packer .validationError s) hlegal, errorCompletion_errorCompletion]
  | true =>
    rw [execPackBits_of_legal hlegal] at h
    cases h
    rw [execPackBits_of_legal (s := completePack _ s) hlegal, completePack_frame, completePack_opr,
      bufWrite_bufWrite_same _ _ (off_add_width_le_of_fieldLegal hlegal), completePack_completePack]

/-- Settles O14: `PACK_BITS` alone writes what it reads; every other operation finds what it reads unchanged. -/
theorem commandTwiceGivesTheSame : Obligations.CommandTwiceGivesTheSame := by
  intro i s t h
  by_cases hpack : i = .packBits
  · subst hpack
    exact execPackBits_again h
  · refine exec_again_of_frame (fun hi => ?_) h
    have hunpack : i = .unpackBits := hi.resolve_left hpack
    obtain ⟨_, hframe, _⟩ := fieldEncoder_writes (.inr hunpack) h
    exact hframe

end Sys2Proof.Machine

/-! # The encoding family: decoder and encoder, the illegal opcodes, and the operands outside their domain -/

namespace Sys2Proof

/-! ## Decoder and encoder are inverse to each other (R90 to R94, R118) -/

theorem roundTrip (i : Instr) : Laws.RoundTrip.Statement i := by
  cases i with
  | encCw => exact Laws.RoundTrip.encCw
  | encRtty => exact Laws.RoundTrip.encRtty
  | encWspr => exact Laws.RoundTrip.encWspr
  | packBits => exact Laws.RoundTrip.packBits
  | unpackBits => exact Laws.RoundTrip.unpackBits
  | feC28 => exact Laws.RoundTrip.feC28
  | feG15 => exact Laws.RoundTrip.feG15
  | feG25 => exact Laws.RoundTrip.feG25
  | feC58 => exact Laws.RoundTrip.feC58
  | feF71 => exact Laws.RoundTrip.feF71
  | feT71 => exact Laws.RoundTrip.feT71
  | feHash => exact Laws.RoundTrip.feHash
  | feS7 => exact Laws.RoundTrip.feS7
  | feState => exact Laws.RoundTrip.feState
  | feR2 => exact Laws.RoundTrip.feR2
  | feR3 => exact Laws.RoundTrip.feR3
  | feR5 => exact Laws.RoundTrip.feR5
  | feK3 => exact Laws.RoundTrip.feK3
  | feS11 => exact Laws.RoundTrip.feS11
  | ftxFreeText => exact Laws.RoundTrip.ftxFreeText
  | ftxDxped => exact Laws.RoundTrip.ftxDxped
  | ftxFieldDay => exact Laws.RoundTrip.ftxFieldDay
  | ftxTelemetry => exact Laws.RoundTrip.ftxTelemetry
  | ftxStandard => exact Laws.RoundTrip.ftxStandard
  | ftxEuVhf2 => exact Laws.RoundTrip.ftxEuVhf2
  | ftxRttyRu => exact Laws.RoundTrip.ftxRttyRu
  | ftxNonstd => exact Laws.RoundTrip.ftxNonstd
  | ftxEuVhf5 => exact Laws.RoundTrip.ftxEuVhf5

theorem decode_encode (i : Instr) : decode (encode i) = .ok i := by
  obtain ⟨_, hdecode, _⟩ := roundTrip i
  exact hdecode

/-- A row of the opcode map stands at the two digits of its opcode (R92). -/
theorem encode_of_opcodeMap {group index : Nat} {i : Instr} (h : opcodeMap group index = some i) :
    (encode i).toNat = 16 * group + index := by
  unfold opcodeMap at h
  split at h <;> cases h <;> rfl

theorem decode_eq_ok_iff_opcodeMap {op : Byte} {i : Instr} :
    decode op = .ok i ↔ opcodeMap (opcodeGroup op) (opcodeIndex op) = some i := by
  unfold decode
  cases opcodeMap (opcodeGroup op) (opcodeIndex op) <;> simp

theorem group_index_toNat (op : Byte) : 16 * opcodeGroup op + opcodeIndex op = op.toNat := Nat.div_add_mod op.toNat 16

theorem encode_of_decode {op : Byte} {i : Instr} (h : decode op = .ok i) : encode i = op :=
  BitVec.eq_of_toNat_eq <|
    calc (encode i).toNat = 16 * opcodeGroup op + opcodeIndex op := encode_of_opcodeMap (decode_eq_ok_iff_opcodeMap.mp h)
      _ = op.toNat := group_index_toNat op

theorem decode_eq_ok_iff {op : Byte} {i : Instr} : decode op = .ok i ↔ encode i = op :=
  ⟨encode_of_decode, fun h => h ▸ decode_encode i⟩

/-- A table word is one byte, and it names what that byte decodes to. -/
theorem decodeTableWord_eq_some_iff {n w : Nat} {i : Instr} :
    decodeTableWord n w = some i ↔ (n = 8 ∧ w < 256) ∧ decode (BitVec.ofNat 8 w) = .ok i := by
  unfold decodeTableWord
  split
  next hword => cases decode (BitVec.ofNat 8 w) <;> simp [hword]
  next hword => simp [hword]

/-- Settles O6: the map of R92, read row by row, is the encoder's list of opcodes. -/
theorem decodeEncodeAgree : Obligations.DecodeEncodeAgree := by
  refine ⟨fun i op _ => decode_eq_ok_iff, fun i n w => ?_⟩
  rw [decodeTableWord_eq_some_iff, decode_eq_ok_iff]
  constructor
  · rintro ⟨⟨hn, hw⟩, hop⟩
    rw [hop, BitVec.toNat_ofNat, Nat.mod_eq_of_lt hw]
    exact ⟨hn, rfl⟩
  · rintro ⟨hn, rfl⟩
    exact ⟨⟨hn, (encode i).isLt⟩, (BitVec.ofNat_toNat 8 (encode i)).symm⟩

/-- Settles O5: seven rows of the map are opcodes of the encoder, and two words stand in no row. -/
theorem opcodeWordsDecode : Obligations.OpcodeWordsDecode :=
  ⟨decode_encode .encCw, decode_encode .encWspr, decode_encode .packBits, decode_encode .feHash, decode_encode .feS11,
    decode_encode .ftxStandard, decode_encode .ftxEuVhf5, rfl, rfl⟩

/-! ## The illegal opcodes (R93, R324) -/

/-- The opcodes of the four groups (R92); the rest are the list of R93. -/
theorem toNat_encode_ranges (i : Instr) :
    (0x01 ≤ (encode i).toNat ∧ (encode i).toNat ≤ 0x03) ∨ (0x10 ≤ (encode i).toNat ∧ (encode i).toNat ≤ 0x11) ∨
      (0x20 ≤ (encode i).toNat ∧ (encode i).toNat ≤ 0x2D) ∨ (0x40 ≤ (encode i).toNat ∧ (encode i).toNat ≤ 0x48) := by
  cases i <;> decide

/-- Settles O4: an opcode of the list is no operation's, and the completion with ILLEGAL_COMMAND reads no operand. -/
theorem illegalOpcodeCompletes : Obligations.IllegalOpcodeCompletes := by
  intro s op hcmd hlist
  have hnone : ∀ i, decode op ≠ .ok i := by
    intro i hop
    have hranges := toNat_encode_ranges i
    rw [decode_eq_ok_iff.mp hop] at hranges
    omega
  rw [Machine.step_of_cmd hcmd, Machine.runOpcode_of_illegal hnone]
  rfl

end Sys2Proof

namespace Sys2Proof.Machine

/-! ## The domains of the operand fields (R96, R100 to R112) -/

theorem isUpper_iff {c : Byte} : isUpper c = true ↔ 0x41 ≤ c.toNat ∧ c.toNat ≤ 0x5A := by simp [isUpper]

theorem lenIn_iff {lo hi : Nat} {t : Text} : lenIn lo hi t = true ↔ lo ≤ t.length ∧ t.length ≤ hi := by simp [lenIn]

theorem cqModOk_iff {m : CqMod} : cqModOk m = true ↔
    (∃ v, m = .num v ∧ v.toNat ≤ 999) ∨
      ∃ t, m = .lets t ∧ 1 ≤ t.length ∧ t.length ≤ 4 ∧ ∀ c ∈ t, 0x41 ≤ c.toNat ∧ c.toNat ≤ 0x5A := by
  cases m with
  | num v => simp [cqModOk]
  | lets t => simp only [cqModOk, Bool.and_eq_true, lenIn_iff, List.all_eq_true, isUpper_iff]; simp [and_assoc]
  | other k => simp [cqModOk]

/-- Settles O38, form by form. -/
theorem callCellDomain : Obligations.CallCellDomain := by
  intro cell
  cases cell with
  | std t => simp [callCellOk, lenIn_iff]
  | cq => simp [callCellOk]
  | cqMod m => simp [callCellOk, cqModOk_iff]
  | de => simp [callCellOk]
  | qrz => simp [callCellOk]
  | hash22 h =>
    have hfits : h.toNat < 2 ^ 22 ↔ h.toNat ≤ 4194303 := by omega
    simpa [callCellOk] using hfits
  | other k => simp [callCellOk]

theorem lenIn_zero_eq_false_iff {hi : Nat} {t : Text} : lenIn 0 hi t = false ↔ hi < t.length := by simp [lenIn]

theorem fieldLegal_eq_false_iff {off width : Nat} : fieldLegal off width = false ↔ width = 0 ∨ 64 < width ∨ 80 < off + width := by
  simp only [fieldLegal, Bool.and_eq_false_iff, decide_eq_false_iff_not]
  omega

theorem g15CellOk_eq_false_iff {c : G15Cell} : g15CellOk c = false ↔ ∃ k, c = .other k := by
  cases c <;> simp [g15CellOk]

theorem s13CellOk_eq_false_iff {c : S13Cell} : s13CellOk c = false ↔ ∃ k, c = .other k := by
  cases c <;> simp [s13CellOk]

theorem r2WordOk_eq_false_iff {w : R2Word} : r2WordOk w = false ↔ ∃ k, w = .other k := by
  cases w <;> simp [r2WordOk]

theorem hashWidthOk_eq_false_iff {m : Nat} : hashWidthOk m = false ↔ m ≠ 10 ∧ m ≠ 12 ∧ m ≠ 22 := by
  simp [hashWidthOk, and_assoc]

theorem ftxDxpedOk_eq_false_iff {o : FtxDxpedOpr} :
    ftxDxpedOk o = false ↔ callCellOk o.callA = false ∨ callCellOk o.callB = false ∨ 11 < o.dxCall.length := by
  simp only [ftxDxpedOk, Bool.and_eq_false_iff, call11Ok, lenIn_zero_eq_false_iff, or_assoc]

theorem ftxFieldDayOk_eq_false_iff {o : FtxFieldDayOpr} :
    ftxFieldDayOk o = false ↔ callCellOk o.callTo = false ∨ callCellOk o.callDe = false ∨ o.ntx.toNat = 0 ∨ 32 < o.ntx.toNat := by
  simp only [ftxFieldDayOk, Bool.and_eq_false_iff, decide_eq_false_iff_not, or_assoc, Nat.not_le, Nat.lt_one_iff]

theorem ftxStandardOk_eq_false_iff {o : FtxStandardOpr} :
    ftxStandardOk o = false ↔ callCellOk o.callTo = false ∨ callCellOk o.callDe = false ∨ ∃ k, o.g15 = .other k := by
  simp only [ftxStandardOk, Bool.and_eq_false_iff, g15CellOk_eq_false_iff, or_assoc]

theorem ftxEuVhf2Ok_eq_false_iff {o : FtxEuVhf2Opr} :
    ftxEuVhf2Ok o = false ↔ callCellOk o.callTo = false ∨ callCellOk o.callDe = false ∨ ∃ k, o.g15 = .other k := by
  simp only [ftxEuVhf2Ok, Bool.and_eq_false_iff, g15CellOk_eq_false_iff, or_assoc]

theorem ftxRttyRuOk_eq_false_iff {o : FtxRttyRuOpr} :
    ftxRttyRuOk o = false ↔ callCellOk o.callTo = false ∨ callCellOk o.callDe = false ∨ ∃ k, o.s13 = .other k := by
  simp only [ftxRttyRuOk, Bool.and_eq_false_iff, s13CellOk_eq_false_iff, or_assoc]

theorem ftxNonstdOk_eq_false_iff {o : FtxNonstdOpr} :
    ftxNonstdOk o = false ↔ 11 < o.hashCall.length ∨ 11 < o.fullCall.length ∨ ∃ k, o.word = .other k := by
  simp only [ftxNonstdOk, Bool.and_eq_false_iff, call11Ok, lenIn_zero_eq_false_iff, r2WordOk_eq_false_iff, or_assoc]

theorem ftxEuVhf5Ok_eq_false_iff {o : FtxEuVhf5Opr} :
    ftxEuVhf5Ok o = false ↔ 11 < o.callTo.length ∨ 11 < o.callDe.length := by
  simp only [ftxEuVhf5Ok, Bool.and_eq_false_iff, call11Ok, lenIn_zero_eq_false_iff]

/-- The failed lookup of R261. -/
theorem s7_eq_neg_one_iff {cfg : Config} {t : Text} : s7 cfg t = -1 ↔ upperText t ∉ cfg.arrlSections.toList := by
  rw [← List.idxOf?_eq_none_iff, s7, tableIndex]
  cases List.idxOf? (upperText t) cfg.arrlSections.toList <;> simp

/-! ## An operand outside its domain (R96, R133, R134, R298) -/

/-- The check an operation makes of its record before any other work (R96), the rejections of R142, R168 and R192 and the section lookup of
`FTX_FIELD_DAY` (R298) among them; `exec_of_invalid` ties it to `exec`. -/
def recordValid (cfg : Config) : OprRecord → Bool
  | .encCw o => textOk cfg o.text && !cwRejected o.wpm.toNat
  | .encRtty o => textOk cfg o.text && !rttyRejected o
  | .encWspr o => wsprValid o
  | .packBits o => fieldLegal o.off.toNat o.width.toNat
  | .unpackBits o => fieldLegal o.off.toNat o.width.toNat
  | .feC28 o => callCellOk o.cell
  | .feG15 o => g15CellOk o.cell
  | .feC58 o => call11Ok o.call
  | .feF71 o => text13Ok o.text
  | .feT71 o => hex18Ok o.hex
  | .feHash o => hashWidthOk o.width.toNat && call11Ok o.call
  | .feR2 o => r2WordOk o.word
  | .ftxFreeText o => text13Ok o.text
  | .ftxDxped o => ftxDxpedOk o
  | .ftxFieldDay o => ftxFieldDayOk o && !decide (s7 cfg o.sec.val = -1)
  | .ftxTelemetry o => hex18Ok o.hex
  | .ftxStandard o => ftxStandardOk o
  | .ftxEuVhf2 o => ftxEuVhf2Ok o
  | .ftxRttyRu o => ftxRttyRuOk o
  | .ftxNonstd o => ftxNonstdOk o
  | .ftxEuVhf5 o => ftxEuVhf5Ok o
  | .feG25 _ | .feS7 _ | .feState _ | .feR3 _ | .feR5 _ | .feK3 _ | .feS11 _ => true

/-- The family whose failure values the operation of a record leaves (R37). -/
def failureFamily : OprRecord → Family
  | .encCw o => .sequence .cw o.base
  | .encRtty o => .sequence .rtty o.base
  | .encWspr o => .sequence .wspr o.base
  | .packBits _ | .ftxFreeText _ | .ftxDxped _ | .ftxFieldDay _ | .ftxTelemetry _ | .ftxStandard _ | .ftxEuVhf2 _ | .ftxRttyRu _
  | .ftxNonstd _ | .ftxEuVhf5 _ => .packer
  | _ => .field

/-- Every operation that fails its check completes with VALIDATION_ERROR and the failure values of its family. The cases are grouped by the
check: none, one of two parts, one of a single part. -/
theorem exec_of_invalid {i : Instr} {s : State} (h : recordValid s.cfg (s.opr.recordFor i) = false) :
    exec i s = .next (errorCompletion (failureFamily (s.opr.recordFor i)) .validationError s) := by
  cases i
  case feG25 | feS7 | feState | feR3 | feR5 | feK3 | feS11 => cases h
  case encCw | encRtty | ftxFieldDay =>
    obtain h | h := Bool.and_eq_false_iff.mp h
    · exact if_pos (by rw [h]; rfl)
    · rw [Bool.not_eq_false'] at h
      exact if_pos (by rw [h]; exact Bool.or_true _)
  case feHash =>
    obtain h | h := Bool.and_eq_false_iff.mp h
    · exact if_pos (by rw [h]; rfl)
    · exact if_pos (by rw [h]; exact Bool.or_true _)
  all_goals exact if_pos (by rw [Bool.not_eq_true']; exact h)

theorem exec_of_invalid_record {r : OprRecord} {s : State} (hopr : s.opr = .record r) (h : recordValid s.cfg r = false) :
    exec r.instr s = .next (errorCompletion (failureFamily r) .validationError s) := by
  have hread : s.opr.recordFor r.instr = r := by rw [hopr, recordFor_record]
  have hfail := exec_of_invalid (i := r.instr) (s := s) (by rw [hread]; exact h)
  rwa [hread] at hfail

theorem textOk_and_eq_false {cfg : Config} {t : Text} (h : cfg.textMax < t.length) (b : Bool) : (textOk cfg t && b) = false := by
  rw [textOk, lenIn_zero_eq_false_iff.mpr h, Bool.false_and]

theorem recordValid_feHash_eq_false_iff {cfg : Config} {o : FeHashOpr} : recordValid cfg (.feHash o) = false ↔
    (o.width.toNat ≠ 10 ∧ o.width.toNat ≠ 12 ∧ o.width.toNat ≠ 22) ∨ 11 < o.call.length := by
  simp only [recordValid, Bool.and_eq_false_iff, hashWidthOk_eq_false_iff, call11Ok, lenIn_zero_eq_false_iff]

theorem recordValid_ftxFieldDay_eq_false_iff {cfg : Config} {o : FtxFieldDayOpr} : recordValid cfg (.ftxFieldDay o) = false ↔
    callCellOk o.callTo = false ∨ callCellOk o.callDe = false ∨ o.ntx.toNat = 0 ∨ 32 < o.ntx.toNat ∨
      upperText o.sec.val ∉ cfg.arrlSections.toList := by
  simp only [recordValid, Bool.and_eq_false_iff, ftxFieldDayOk_eq_false_iff, Bool.not_eq_false', decide_eq_true_eq, s7_eq_neg_one_iff,
    or_assoc]

/-- Settles O50: in each clause the record fails its operation's check. -/
theorem domainErrors : Obligations.DomainErrors := by
  refine ⟨?encCw, ?encRtty, ?packBits, ?unpackBits, ?feC28, ?feG15, ?feC58, ?feF71, ?feT71, ?feHash, ?feR2, ?ftxFreeText, ?ftxTelemetry,
    ?ftxDxped, ?ftxFieldDay, ?ftxStandard, ?ftxEuVhf2, ?ftxRttyRu, ?ftxNonstd, ?ftxEuVhf5⟩ <;> intro s o hopr hout <;>
    refine exec_of_invalid_record hopr ?_
  case encCw | encRtty => exact textOk_and_eq_false hout _
  case packBits | unpackBits => exact fieldLegal_eq_false_iff.mpr hout
  case feC28 => exact hout
  case feG15 => exact g15CellOk_eq_false_iff.mpr hout
  case feC58 | feF71 | feT71 | ftxFreeText | ftxTelemetry => exact lenIn_zero_eq_false_iff.mpr hout
  case feHash => exact recordValid_feHash_eq_false_iff.mpr hout
  case feR2 => exact r2WordOk_eq_false_iff.mpr hout
  case ftxDxped => exact ftxDxpedOk_eq_false_iff.mpr hout
  case ftxFieldDay => exact recordValid_ftxFieldDay_eq_false_iff.mpr hout
  case ftxStandard => exact ftxStandardOk_eq_false_iff.mpr hout
  case ftxEuVhf2 => exact ftxEuVhf2Ok_eq_false_iff.mpr hout
  case ftxRttyRu => exact ftxRttyRuOk_eq_false_iff.mpr hout
  case ftxNonstd => exact ftxNonstdOk_eq_false_iff.mpr hout
  case ftxEuVhf5 => exact ftxEuVhf5Ok_eq_false_iff.mpr hout

end Sys2Proof.Machine

/-! # The sequence family: the completions of every operation, and the sequence handed over (R132 to R134, R139) -/

namespace Sys2Proof.Machine

-- As in Tests/Slice0.lean: each thread of asynchronous elaboration reserves memory, of which the text before leaves little.
set_option Elab.async false

/-! ## The completions of a sequence encoder (R132, R133) -/

/-- Whether it succeeds or fails, a sequence encoder names its mode and its `base` operand in the header. -/
theorem sequenceEncoder_header {i : Instr} {s t : State} (hi : isSequenceEncoder i = true) (h : exec i s = .next t) :
    t.seqMode = sequenceMode i ∧ t.seqBase = sequenceBase i s := by
  cases i
  case encCw | encRtty =>
    simp only [exec, execEncCw, execEncRtty] at h
    split at h
    · cases h; exact ⟨rfl, rfl⟩
    · split at h
      · cases h; exact ⟨rfl, rfl⟩
      · cases h; exact ⟨rfl, rfl⟩
  case encWspr =>
    simp only [exec, execEncWspr] at h
    split at h
    · cases h; exact ⟨rfl, rfl⟩
    · split at h
      · cases h; exact ⟨rfl, rfl⟩
      · split at h
        · cases h
        · cases h; exact ⟨rfl, rfl⟩
  all_goals exact absurd hi (by decide)

/-- All that a sequence encoder can do when it completes. -/
theorem sequenceEncoder_cases {i : Instr} {s t : State} (hi : isSequenceEncoder i = true) (h : exec i s = .next t) :
    (∃ S, t = completeSeq (sequenceMode i) (sequenceBase i s) S s) ∨
      ∃ c, (c = .validationError ∨ c = .allocationError) ∧
        t = errorCompletion (.sequence (sequenceMode i) (sequenceBase i s)) c s := by
  obtain ⟨hmode, hbase⟩ := sequenceEncoder_header hi h
  have hout := exec_sequenceEncoder i s hi
  rw [h] at hout
  rw [← hmode, ← hbase]
  cases hout with
  | invalid m b => exact .inr ⟨_, .inl rfl, rfl⟩
  | noRoom m b => exact .inr ⟨_, .inr rfl, rfl⟩
  | done m b S => exact .inl ⟨S, rfl⟩

/-- Settles O11: SYM holds the new sequence, or the error completion has emptied it. -/
theorem sequenceCompletions : Obligations.SequenceCompletions := by
  intro i s t hi h
  obtain ⟨S, rfl⟩ | ⟨c, hc, rfl⟩ := sequenceEncoder_cases hi h
  · exact .inl ⟨rfl, rfl⟩
  · exact .inr ⟨hc, rfl⟩

/-! ## The completions of an operation that produces no sequence (R134) -/

theorem family_of_not_sequenceEncoder {i : Instr} (hi : isSequenceEncoder i = false) :
    (isFieldEncoder i = true ∨ i = .unpackBits) ∨ writesFrame i = true :=
  (instr_family i).resolve_left (by simp [hi])

/-- All that a field encoder with its value in RESULT, or `UNPACK_BITS`, can do when it completes; the cases are grouped by what stands
between the operands and the value: nothing, the domain check, the domain check and the alphabet. -/
theorem resultEncoder_cases {i : Instr} {s t : State} (hi : isFieldEncoder i = true ∨ i = .unpackBits) (hf71 : i ≠ .feF71)
    (ht71 : i ≠ .feT71) (h : exec i s = .next t) : t = failField s ∨ ∃ v, t = completeField v s := by
  cases i
  case feG25 | feS7 | feState | feR3 | feR5 | feK3 | feS11 =>
    cases h
    exact .inr ⟨_, rfl⟩
  case unpackBits | feC28 | feG15 | feR2 =>
    simp only [exec, execUnpackBits, execFeC28, execFeG15, execFeR2] at h
    split at h
    · cases h; exact .inl rfl
    · cases h; exact .inr ⟨_, rfl⟩
  case feC58 | feHash =>
    simp only [exec, execFeC58, execFeHash] at h
    split at h
    · cases h; exact .inl rfl
    · split at h
      · cases h; exact .inr ⟨_, rfl⟩
      · cases h
  case feF71 => exact absurd rfl hf71
  case feT71 => exact absurd rfl ht71
  all_goals exact absurd hi (by decide)

/-- All that `FE_F71` and `FE_T71`, whose 71 bits go to B71, can do when they complete. -/
theorem b71Encoder_cases {i : Instr} {s t : State} (hi : i = .feF71 ∨ i = .feT71) (h : exec i s = .next t) :
    t = failField s ∨ ∃ B, t = completeB71 B s := by
  cases i
  case feF71 | feT71 =>
    simp only [exec, execFeF71, execFeT71] at h
    split at h
    · cases h; exact .inl rfl
    · split at h
      · cases h; exact .inr ⟨_, rfl⟩
      · cases h
  all_goals exact absurd hi (by decide)

theorem frameWriter_cases {i : Instr} {s t : State} (hi : writesFrame i = true) (h : exec i s = .next t) :
    t = failPack s ∨ ∃ F, t = completePack F s := by
  have hout := exec_packer i s hi
  rw [h] at hout
  cases hout with
  | failed => exact .inl rfl
  | frame F => exact .inr ⟨F, rfl⟩

/-- Settles O12: each group has one successful completion and the error completion of its family. -/
theorem otherCompletions : Obligations.OtherCompletions := by
  intro i s t hi h
  refine ⟨fun hframe hf71 ht71 => ?result, fun hb71 => ?b71, fun hframe => ?frame⟩
  case result =>
    have hfamily := (family_of_not_sequenceEncoder hi).resolve_right (by simp [hframe])
    obtain rfl | ⟨v, rfl⟩ := resultEncoder_cases hfamily hf71 ht71 h
    · exact .inr rfl
    · exact .inl rfl
  case b71 =>
    obtain rfl | ⟨B, rfl⟩ := b71Encoder_cases hb71 h
    · exact .inr rfl
    · exact .inl rfl
  case frame =>
    obtain rfl | ⟨F, rfl⟩ := frameWriter_cases hframe h
    · exact .inr rfl
    · exact .inl rfl

/-! ## A sequence handed over is left alone (R139, R358) -/

@[refl] theorem SameSequence.refl (s : State) : SameSequence s s := ⟨rfl, rfl, rfl, rfl, rfl, rfl⟩

@[trans] theorem SameSequence.trans {s t u : State} (hst : SameSequence s t) (htu : SameSequence t u) : SameSequence s u where
  mode := htu.mode.trans hst.mode
  base := htu.base.trans hst.base
  len := htu.len.trans hst.len
  cursor := htu.cursor.trans hst.cursor
  rep := htu.rep.trans hst.rep
  sym := htu.sym.trans hst.sym

theorem sameSequence_clearCmd_latchCmd (op : Byte) (s : State) : SameSequence s (clearCmd (latchCmd op s)) :=
  ⟨rfl, rfl, rfl, rfl, rfl, rfl⟩

theorem sameSequence_illegalCommand (s : State) : SameSequence s (illegalCommand s) := ⟨rfl, rfl, rfl, rfl, rfl, rfl⟩

theorem exec_keeps_sequence {i : Instr} {s t : State} (hi : isSequenceEncoder i = false) (h : exec i s = .next t) :
    SameSequence s t := by
  rcases family_of_not_sequenceEncoder hi with hfield | hframe
  · obtain ⟨_, _, hseq⟩ := fieldEncoder_writes hfield h
    exact hseq
  · obtain ⟨_, _, _, hseq⟩ := frameWriter_writes hframe h
    exact hseq

theorem runOpcode_keeps_sequence {op : Byte} {s t : State} (hop : ∀ i, decode op = .ok i → isSequenceEncoder i = false)
    (h : runOpcode op s = .next t) : SameSequence s t := by
  obtain ⟨i, hi, hexec⟩ | rfl := runOpcode_cases h
  · exact exec_keeps_sequence (hop i hi) hexec
  · exact sameSequence_illegalCommand s

/-- An action of the host that hands over no sequence: an operand write, or a command that is no sequence encoder's. -/
def LeavesSequence (a : Action) : Prop :=
  (∃ r, a = .write .host (.opr r)) ∨ ∃ op, a = .write .host (.cmd op) ∧ ∀ i, decode op = .ok i → isSequenceEncoder i = false

theorem LeavesSequence.act_keeps {a : Action} {s t : State} (ha : LeavesSequence a) (h : act s a = .next t) : SameSequence s t := by
  obtain ⟨r, rfl⟩ | ⟨op, rfl, hop⟩ := ha
  · cases h
    exact ⟨rfl, rfl, rfl, rfl, rfl, rfl⟩
  · have hrun : runOpcode op (clearCmd (latchCmd op s)) = .next t := h
    exact (sameSequence_clearCmd_latchCmd op s).trans (runOpcode_keeps_sequence hop hrun)

/-- Settles O15, by induction on the actions. -/
theorem sequenceIsLeftAlone : Obligations.SequenceIsLeftAlone := by
  intro acts
  induction acts with
  | nil =>
    intro s t _ h
    cases h
    exact .refl s
  | cons x xs ih =>
    intro s t hacts h
    obtain ⟨hx, hxs⟩ := List.forall_mem_cons.mp hacts
    obtain ⟨u, hact, hrest⟩ := runActions_cons h
    exact (LeavesSequence.act_keeps hx hact).trans (ih u t hxs hrest)

end Sys2Proof.Machine

/-! # The CW family: rejection, the closed form of the sequence, spaces and skips, and the PARIS timing (R140 to R152) -/

namespace Sys2Proof.Machine

-- As in Tests/Slice0.lean: each thread of asynchronous elaboration reserves memory, of which the text before leaves little.
set_option Elab.async false

/-! ## Characters: case folding and the Morse table (R16, R141, R146) -/

theorem isDigit_iff {c : Byte} : isDigit c = true ↔ 0x30 ≤ c.toNat ∧ c.toNat ≤ 0x39 := by simp [isDigit]

theorem isLower_iff {c : Byte} : isLower c = true ↔ 0x61 ≤ c.toNat ∧ c.toNat ≤ 0x7A := by simp [isLower]

theorem toNat_upper_of_lower {c : Byte} (hlo : 0x61 ≤ c.toNat) (hhi : c.toNat ≤ 0x7A) : (upper c).toNat + 0x20 = c.toNat := by
  rw [upper, if_pos (isLower_iff.mpr ⟨hlo, hhi⟩)]
  bv_omega

theorem upper_of_not_lower {c : Byte} (h : c.toNat < 0x61 ∨ 0x7A < c.toNat) : upper c = c :=
  if_neg (by rw [isLower_iff]; omega)

/-- What is folded is an upper-case letter, so folding again changes nothing. -/
@[simp] theorem upper_upper (c : Byte) : upper (upper c) = upper c := by
  by_cases h : 0x61 ≤ c.toNat ∧ c.toNat ≤ 0x7A
  · obtain ⟨hlo, hhi⟩ := h
    have hfold := toNat_upper_of_lower hlo hhi
    exact upper_of_not_lower (by omega)
  · have hsame : upper c = c := upper_of_not_lower (by omega)
    rw [hsame, hsame]

theorem morseCode_of_upper (cfg : Config) {c : Byte} (hlo : 0x41 ≤ c.toNat) (hhi : c.toNat ≤ 0x5A) :
    morseCode cfg c = cfg.morse[c.toNat - 0x41]? := by
  rw [morseCode, morseIndex, if_pos (isUpper_iff.mpr ⟨hlo, hhi⟩)]
  rfl

theorem morseCode_of_digit (cfg : Config) {c : Byte} (hlo : 0x30 ≤ c.toNat) (hhi : c.toNat ≤ 0x39) :
    morseCode cfg c = cfg.morse[26 + (c.toNat - 0x30)]? := by
  rw [morseCode, morseIndex, if_neg (by rw [isUpper_iff]; omega), if_pos (isDigit_iff.mpr ⟨hlo, hhi⟩)]
  rfl

theorem morseCode_of_unsupported (cfg : Config) {c : Byte}
    (h : c.toNat < 0x30 ∨ (0x39 < c.toNat ∧ c.toNat < 0x41) ∨ 0x5A < c.toNat) : morseCode cfg c = none := by
  rw [morseCode, morseIndex, if_neg (by rw [isUpper_iff]; omega), if_neg (by rw [isDigit_iff]; omega)]

theorem ne_space_of_code {cfg : Config} {b : Byte} {code : List MorseElem} (h : morseCode cfg (upper b) = some code) :
    upper b ≠ space := by
  intro hsp
  rw [hsp, morseCode_space] at h
  cases h

theorem mem_morse_of_code {cfg : Config} {c : Byte} {code : List MorseElem} (h : morseCode cfg c = some code) :
    code ∈ cfg.morse.toList := by
  unfold morseCode at h
  split at h
  · obtain ⟨hk, rfl⟩ := Vector.getElem?_eq_some_iff.mp h
    exact Vector.mem_toList_iff.mpr (Vector.getElem_mem hk)
  · cases h

/-! ## `extend` on a transient list (R135) -/

@[simp] theorem extend_nil (d : Nat) : extend d [] = [] := rfl

@[simp] theorem extend_zero (S : List Draft) : extend 0 S = S := by
  induction S using List.reverseRecOn with
  | nil => rfl
  | append_singleton S x _ => rw [extend_append_singleton, Nat.add_zero]

theorem extend_extend (d e : Nat) (S : List Draft) : extend d (extend e S) = extend (e + d) S := by
  induction S using List.reverseRecOn with
  | nil => rfl
  | append_singleton S x _ => simp only [extend_append_singleton, Nat.add_assoc]

theorem extend_append_of_ne_nil (d : Nat) (S : List Draft) {T : List Draft} (hT : T ≠ []) : extend d (S ++ T) = S ++ extend d T := by
  induction T using List.reverseRecOn with
  | nil => exact absurd rfl hT
  | append_singleton T x _ => rw [← List.append_assoc, extend_append_singleton, extend_append_singleton, List.append_assoc]

/-! ## One iteration of the loop of R143: a space, an encodable character, any other character -/

theorem cwChar_of_space (cfg : Config) (dot : Nat) (w : CwWork) {b : Byte} (hsp : upper b = space) :
    cwChar cfg dot w b = { syms := extend (6 * dot) w.syms, lastWasChar := false } := by
  rw [cwChar, if_pos hsp]
  split
  next hempty => rw [hempty, extend_nil]
  next => rfl

theorem cwChar_of_code {cfg : Config} (dot : Nat) (w : CwWork) {b : Byte} {code : List MorseElem}
    (hc : morseCode cfg (upper b) = some code) : cwChar cfg dot w b =
      { syms := cwElements dot code (extend (dot * (2 * w.lastWasChar.toNat)) w.syms), lastWasChar := true } := by
  simp only [cwChar, if_neg (ne_space_of_code hc), hc]
  cases w.lastWasChar with
  | true => simp [Nat.mul_comm]
  | false => simp

theorem cwChar_of_skip {cfg : Config} (dot : Nat) (w : CwWork) {b : Byte} (hsp : upper b ≠ space)
    (hc : morseCode cfg (upper b) = none) : cwChar cfg dot w b = w := by
  simp only [cwChar, if_neg hsp, hc]

theorem cwChar_upper (cfg : Config) (dot : Nat) (w : CwWork) (b : Byte) : cwChar cfg dot w (upper b) = cwChar cfg dot w b := by
  simp only [cwChar, upper_upper]

/-- Before the first symbol, whatever has no code changes nothing. -/
theorem cwChar_start_of_no_code {cfg : Config} (dot : Nat) {b : Byte} (hc : morseCode cfg (upper b) = none) :
    cwChar cfg dot { syms := [], lastWasChar := false } b = { syms := [], lastWasChar := false } := by
  by_cases hsp : upper b = space
  · rw [cwChar_of_space cfg dot _ hsp, extend_nil]
  · exact cwChar_of_skip dot _ hsp hc

theorem foldl_cwChar_start_of_no_code {cfg : Config} (dot : Nat) {u : Text} (hu : ∀ b ∈ u, morseCode cfg (upper b) = none) :
    u.foldl (cwChar cfg dot) { syms := [], lastWasChar := false } = { syms := [], lastWasChar := false } := by
  induction u with
  | nil => rfl
  | cons b t ih =>
    obtain ⟨hb, ht⟩ := List.forall_mem_cons.mp hu
    rw [List.foldl_cons, cwChar_start_of_no_code dot hb, ih ht]

/-- Settles O21: the table by ranges of characters, and each law of the sequence from what one character does to the working values. -/
theorem cwSpacesAndSkips : Obligations.CwSpacesAndSkips := by
  refine ⟨fun cfg c => ⟨morseCode_of_upper cfg, morseCode_of_digit cfg, morseCode_of_unsupported cfg, toNat_upper_of_lower,
    upper_of_not_lower⟩, fun cfg dot u v => ⟨fun c hsp hc => ?skip, ?fold, fun hu => ?leading, ?space⟩⟩
  case skip => rw [cwSymbols, cwSymbols, List.foldl_append, List.foldl_append, List.foldl_cons, cwChar_of_skip dot _ hsp hc]
  case fold =>
    rw [cwSymbols, cwSymbols, upperText, List.foldl_map]
    simp only [cwChar_upper]
  case leading => rw [cwSymbols, cwSymbols, List.foldl_append, foldl_cwChar_start_of_no_code dot hu]
  case space =>
    rw [cwSymbols, cwSymbols, List.foldl_append, List.foldl_cons, List.foldl_nil, cwChar_of_space cfg dot _ rfl]

/-! ## The loop of R143 gives the closed form of R147 -/

theorem cwCodeShape_cons (dot gap : Nat) (e : MorseElem) (r : List MorseElem) : cwCodeShape dot gap (e :: r) =
    { freq := 0, dur := if e = .dot then dot else 3 * dot, on := true } ::
      { freq := 0, dur := dot * (if r = [] then gap else 1), on := false } :: cwCodeShape dot gap r := by
  cases e <;> rfl

/-- The symbols of one character appended in the loop, its last carrier-off symbol still one dot long. -/
theorem cwElements_eq_append (dot : Nat) (code : List MorseElem) (S : List Draft) :
    cwElements dot code S = S ++ cwCodeShape dot 1 code := by
  induction code generalizing S with
  | nil => rw [cwCodeShape, List.append_nil]; rfl
  | cons e r ih =>
    rw [cwElements, List.foldl_cons, ← cwElements, ih]
    simp [emit, cwCodeShape_cons]

theorem cwCodeShape_ne_nil {dot gap : Nat} {code : List MorseElem} (h : code ≠ []) : cwCodeShape dot gap code ≠ [] := by
  cases code with
  | nil => exact absurd rfl h
  | cons e r => exact List.cons_ne_nil _ _

/-- A gap after a character lengthens its last carrier-off symbol. -/
theorem extend_cwCodeShape (dot gap more : Nat) (code : List MorseElem) :
    extend (dot * more) (cwCodeShape dot gap code) = cwCodeShape dot (gap + more) code := by
  induction code with
  | nil => rfl
  | cons e r ih =>
    cases r with
    | nil => simp [cwCodeShape, extend, Nat.mul_add]
    | cons e' r => simpa [cwCodeShape, extend] using ih

/-- The dots that the text `t` adds to the last symbol before it, where `last` tells whether a character came just before (R147). -/
def cwPending (cfg : Config) (last : Bool) (t : Text) : Nat := 2 * (last && charFollows cfg t).toNat + 6 * spacesBefore cfg t

theorem cwGap_eq (cfg : Config) (t : Text) : cwGap cfg t = 1 + cwPending cfg true t := by
  rw [cwGap, cwPending, Bool.true_and, Nat.add_assoc]

theorem cwPending_of_space (cfg : Config) (last : Bool) {b : Byte} (t : Text) (hsp : upper b = space) :
    cwPending cfg last (b :: t) = 6 + cwPending cfg false t := by
  simp [cwPending, charFollows, spacesBefore, hsp]
  omega

theorem cwPending_of_code {cfg : Config} (last : Bool) {b : Byte} {code : List MorseElem} (t : Text)
    (hc : morseCode cfg (upper b) = some code) : cwPending cfg last (b :: t) = 2 * last.toNat := by
  simp [cwPending, charFollows, spacesBefore, ne_space_of_code hc, hc]

theorem cwPending_of_skip {cfg : Config} (last : Bool) {b : Byte} (t : Text) (hsp : upper b ≠ space)
    (hc : morseCode cfg (upper b) = none) : cwPending cfg last (b :: t) = cwPending cfg last t := by
  simp [cwPending, charFollows, spacesBefore, hsp, hc]

theorem cwShape_of_code {cfg : Config} (dot : Nat) {b : Byte} {code : List MorseElem} (t : Text)
    (hc : morseCode cfg (upper b) = some code) :
    cwShape cfg dot (b :: t) = cwCodeShape dot (cwGap cfg t) code ++ cwShape cfg dot t := by
  rw [cwShape, hc]

theorem cwShape_of_no_code {cfg : Config} (dot : Nat) {b : Byte} (t : Text) (hc : morseCode cfg (upper b) = none) :
    cwShape cfg dot (b :: t) = cwShape cfg dot t := by
  rw [cwShape, hc]

/-- From any working values: the rest of the text lengthens the last symbol by the gap it begins with, and appends its own closed form. -/
theorem foldl_cwChar_eq_append_cwShape {cfg : Config} (hcodes : ∀ code ∈ cfg.morse.toList, code ≠ []) (dot : Nat) (t : Text) (w : CwWork) :
    (t.foldl (cwChar cfg dot) w).syms = extend (dot * cwPending cfg w.lastWasChar t) w.syms ++ cwShape cfg dot t := by
  induction t generalizing w with
  | nil => simp [cwPending, charFollows, spacesBefore, cwShape]
  | cons b t ih =>
    rw [List.foldl_cons, ih]
    cases hc : morseCode cfg (upper b) with
    | some code =>
      have hne : cwCodeShape dot 1 code ≠ [] := cwCodeShape_ne_nil (hcodes code (mem_morse_of_code hc))
      rw [cwChar_of_code dot w hc, cwPending_of_code _ t hc, cwShape_of_code dot t hc, cwElements_eq_append,
        extend_append_of_ne_nil _ _ hne, extend_cwCodeShape, ← cwGap_eq, List.append_assoc]
    | none =>
      rw [cwShape_of_no_code dot t hc]
      by_cases hsp : upper b = space
      · rw [cwChar_of_space cfg dot w hsp, cwPending_of_space cfg _ t hsp, extend_extend, Nat.mul_add, Nat.mul_comm dot 6]
      · rw [cwChar_of_skip dot w hsp hc, cwPending_of_skip _ t hsp hc]

theorem cwSymbols_eq_cwShape {cfg : Config} (hcodes : ∀ code ∈ cfg.morse.toList, code ≠ []) (dot : Nat) (text : Text) :
    cwSymbols cfg dot text = cwShape cfg dot text := by
  rw [cwSymbols, foldl_cwChar_eq_append_cwShape hcodes, extend_nil, List.nil_append]

/-! ## The shape of the symbols (R147) -/

/-- Pairs of a carrier-on symbol of a dot or a dash and a carrier-off symbol of `1 + 2a + 6b` dots; `cwPairs_cwShape` ties it to the
sequence. -/
inductive CwPairs (dot : Nat) : List Draft → Prop where
  | nil : CwPairs dot []
  | cons {on a b : Nat} {S : List Draft} (hon : on = dot ∨ on = 3 * dot) (ha : a ≤ 1) (hS : CwPairs dot S) :
    CwPairs dot ({ freq := 0, dur := on, on := true } :: { freq := 0, dur := dot * (1 + 2 * a + 6 * b), on := false } :: S)

theorem CwPairs.append {dot : Nat} {S T : List Draft} (hS : CwPairs dot S) (hT : CwPairs dot T) : CwPairs dot (S ++ T) := by
  induction hS with
  | nil => exact hT
  | cons hon ha _ ih => exact .cons hon ha ih

theorem CwPairs.even_length {dot : Nat} {S : List Draft} (hS : CwPairs dot S) : S.length % 2 = 0 := by
  induction hS with
  | nil => rfl
  | cons _ _ _ ih => simp only [List.length_cons]; omega

theorem CwPairs.symbol {dot : Nat} {S : List Draft} (hS : CwPairs dot S) : ∀ (k : Nat) (x : Draft), S[k]? = some x →
    x.freq = 0 ∧ x.on = decide (k % 2 = 0) ∧ (k % 2 = 0 → x.dur = dot ∨ x.dur = 3 * dot) ∧
      (k % 2 = 1 → ∃ a b : Nat, a ≤ 1 ∧ x.dur = dot * (1 + 2 * a + 6 * b)) := by
  induction hS with
  | nil => intro k x h; cases h
  | @cons _ a b _ hon ha _ ih =>
    intro k x h
    match k with
    | 0 => cases h; exact ⟨rfl, rfl, fun _ => hon, fun h1 => absurd h1 (by decide)⟩
    | 1 => cases h; exact ⟨rfl, rfl, fun h0 => absurd h0 (by decide), fun _ => ⟨a, b, ha, rfl⟩⟩
    | k + 2 =>
      rw [Nat.add_mod_right]
      exact ih k x h

theorem cwPairs_cwCodeShape (dot : Nat) {a : Nat} (b : Nat) (ha : a ≤ 1) (code : List MorseElem) :
    CwPairs dot (cwCodeShape dot (1 + 2 * a + 6 * b) code) := by
  induction code with
  | nil => exact .nil
  | cons e r ih =>
    have hon : (if e = .dot then dot else 3 * dot) = dot ∨ (if e = .dot then dot else 3 * dot) = 3 * dot := ite_eq_or_eq _ _ _
    rw [cwCodeShape_cons]
    by_cases hr : r = []
    · rw [if_pos hr]; exact .cons hon ha ih
    · rw [if_neg hr]; exact .cons (a := 0) (b := 0) hon (Nat.zero_le 1) ih

theorem cwPairs_cwShape (cfg : Config) (dot : Nat) (t : Text) : CwPairs dot (cwShape cfg dot t) := by
  induction t with
  | nil => exact .nil
  | cons b t ih =>
    cases hc : morseCode cfg (upper b) with
    | none => rw [cwShape_of_no_code dot t hc]; exact ih
    | some code =>
      rw [cwShape_of_code dot t hc]
      exact (cwPairs_cwCodeShape dot _ (Bool.toNat_le _) code).append ih

/-- The capacity of R145 as the sum over the encodable characters. -/
theorem cwNeeded_eq_sum (cfg : Config) (text : Text) :
    cwNeeded cfg text = ((text.filterMap fun b => morseCode cfg (upper b)).map fun code => 2 * code.length).sum := by
  induction text with
  | nil => rfl
  | cons b t ih =>
    rw [cwNeeded_cons, ih]
    cases hc : morseCode cfg (upper b) with
    | none => simp [cwNeeded_singleton_of_none hc, hc]
    | some code => simp [cwNeeded_singleton_of_code hc, hc]

/-- Settles O20: the loop gives the closed form, which is made of pairs. -/
theorem cwSequenceShape : Obligations.CwSequenceShape := by
  intro cfg dot text hcodes
  have hpairs : CwPairs dot (cwSymbols cfg dot text) := cwSymbols_eq_cwShape hcodes dot text ▸ cwPairs_cwShape cfg dot text
  exact ⟨cwSymbols_eq_cwShape hcodes dot text, (length_cwSymbols cfg dot text).trans (cwNeeded_eq_sum cfg text), hpairs.even_length,
    hpairs.symbol⟩

/-! ## The completions of `ENC_CW` (R142, R143, R145) -/

theorem cwRejected_eq_true_iff {wpm : Nat} : cwRejected wpm = true ↔ wpm = 0 ∨ 1200000 < wpm := by
  simp only [cwRejected, cwDot, Bool.or_eq_true, decide_eq_true_eq, Nat.div_eq_zero_iff]
  omega

theorem cwRejected_of_le {wpm : Nat} (hlo : 1 ≤ wpm) (hhi : wpm ≤ 1200000) : cwRejected wpm = false := by
  rw [← Bool.not_eq_true, cwRejected_eq_true_iff]
  omega

theorem recordValid_encCw_eq_false_iff {cfg : Config} {o : EncCwOpr} : recordValid cfg (.encCw o) = false ↔
    cfg.textMax < o.text.length ∨ o.wpm.toNat = 0 ∨ 1200000 < o.wpm.toNat := by
  simp only [recordValid, Bool.and_eq_false_iff, textOk, lenIn_zero_eq_false_iff, Bool.not_eq_false', cwRejected_eq_true_iff]

theorem recordValid_encCw {cfg : Config} {o : EncCwOpr} (htext : o.text.length ≤ cfg.textMax) (hlo : 1 ≤ o.wpm.toNat)
    (hhi : o.wpm.toNat ≤ 1200000) : recordValid cfg (.encCw o) = true := by
  rw [← Bool.not_eq_false, recordValid_encCw_eq_false_iff]
  omega

/-- A record in the domain at a speed that R142 admits gets the capacity check (R145) and then its sequence. -/
theorem exec_encCw_of_valid {s : State} {o : EncCwOpr} (hopr : s.opr = .record (.encCw o)) (hvalid : recordValid s.cfg (.encCw o) = true) :
    exec .encCw s = .next (if s.cfg.symCap < cwNeeded s.cfg o.text then errorCompletion (.sequence .cw o.base) .allocationError s
      else completeSeq .cw o.base (cwStore s.cfg o (cwSymbols s.cfg (cwDot o.wpm.toNat) o.text)) s) := by
  obtain ⟨htext, haccepted⟩ := Bool.and_eq_true_iff.mp hvalid
  rw [Bool.not_eq_true'] at haccepted
  simp only [exec, execEncCw, hopr, Opr.encCw_record, htext, haccepted, Bool.not_true, Bool.or_false, Bool.false_eq_true, if_false]
  split <;> rfl

/-- Settles O18: the failed check of the record (R96, R142), and after it the capacity check (R145). -/
theorem cwRejects : Obligations.CwRejects := by
  intro s o hopr
  dsimp only
  refine ⟨fun hbad => exec_of_invalid_record hopr (recordValid_encCw_eq_false_iff.mpr hbad), fun htext hlo hhi hroom => ?_⟩
  rw [exec_encCw_of_valid hopr (recordValid_encCw htext hlo hhi), if_pos (by rwa [cwNeeded_eq_sum])]
  rfl

/-- The symbol stored for a draft that lasts: exact, except for a duration beyond 32 bits, which only stays above 0 (log entry 5). -/
theorem storeSymbol_spec (free : BitVec 32) {x : Draft} (hx : 0 < x.dur) :
    (storeSymbol free x).freq = x.freq ∧ (storeSymbol free x).on = x.on ∧ 0 < (storeSymbol free x).dur.toNat ∧
      (x.dur < 2 ^ 32 → (storeSymbol free x).dur.toNat = x.dur) :=
  ⟨rfl, rfl, storeDur_pos free x.dur hx, toNat_storeDur free x.dur⟩

/-- Settles O19: the sequence is the closed form of R147, each symbol of it stored. -/
theorem cwCompletes : Obligations.CwCompletes := by
  intro s o hopr
  dsimp only
  rw [← cwNeeded_eq_sum]
  intro hcodes htext hlo hhi hroom
  have hvalid : recordValid s.cfg (.encCw o) = true := recordValid_encCw htext hlo hhi
  have hdot : 0 < cwDot o.wpm.toNat := cwDot_pos_of_not_rejected (cwRejected_of_le hlo hhi)
  have hshape := cwSymbols_eq_cwShape hcodes (cwDot o.wpm.toNat) o.text
  have hlen := length_cwSymbols s.cfg (cwDot o.wpm.toNat) o.text
  have hlast := draftsLast_cwSymbols s.cfg hdot o.text
  refine ⟨cwStore s.cfg o (cwSymbols s.cfg (cwDot o.wpm.toNat) o.text), ?_, (length_cwStore _ _ _).trans hlen, ?_, fun k x hx => ?_⟩
  · rw [exec_encCw_of_valid hopr hvalid, if_neg (Nat.not_lt.mpr hroom), completeSeq, length_cwStore, hlen]
  · rw [← cwDot, ← hshape, hlen]
  · rw [← cwDot, ← hshape] at hx
    exact ⟨_, by rw [getElem?_cwStore, hx]; rfl, storeSymbol_spec _ (hlast x (List.mem_of_getElem? hx))⟩

/-! ## The PARIS timing (R151) -/

/-- A symbol whose duration counts dots, in microseconds. -/
def scaleDur (dot : Nat) (x : Draft) : Draft := { x with dur := dot * x.dur }

theorem cwCodeShape_eq_map_scaleDur (dot gap : Nat) (code : List MorseElem) :
    cwCodeShape dot gap code = (cwCodeShape 1 gap code).map (scaleDur dot) := by
  induction code with
  | nil => rfl
  | cons e r ih =>
    rw [cwCodeShape_cons, cwCodeShape_cons, ih]
    cases e <;> simp [scaleDur, Nat.mul_comm]

/-- Every duration of a sequence is a number of dots that the text alone determines (R144). -/
theorem cwShape_eq_map_scaleDur (cfg : Config) (dot : Nat) (t : Text) : cwShape cfg dot t = (cwShape cfg 1 t).map (scaleDur dot) := by
  induction t with
  | nil => rfl
  | cons b t ih =>
    cases hc : morseCode cfg (upper b) with
    | none => rw [cwShape_of_no_code dot t hc, cwShape_of_no_code 1 t hc, ih]
    | some code =>
      rw [cwShape_of_code dot t hc, cwShape_of_code 1 t hc, ih, cwCodeShape_eq_map_scaleDur dot, List.map_append]

theorem sum_dur_cwShape (cfg : Config) (dot : Nat) (t : Text) :
    ((cwShape cfg dot t).map fun x => x.dur).sum = dot * ((cwShape cfg 1 t).map fun x => x.dur).sum := by
  rw [cwShape_eq_map_scaleDur, List.map_map, ← List.sum_map_mul_left]
  rfl

theorem cwSymbols_singleton_of_code {cfg : Config} (dot : Nat) {b : Byte} {code : List MorseElem}
    (hc : morseCode cfg (upper b) = some code) : cwSymbols cfg dot [b] = cwCodeShape dot 1 code := by
  rw [cwSymbols, List.foldl_cons, List.foldl_nil, cwChar_of_code dot _ hc, extend_nil, cwElements_eq_append, List.nil_append]

theorem defaultMorse_codes_ne_nil : ∀ code ∈ defaultConfig.morse.toList, code ≠ [] := by decide

theorem paris_lasts_fifty_dots : ((cwShape defaultConfig 1 (ascii "PARIS ")).map fun x => x.dur).sum = 50 := by decide

/-- Settles O22: "E" is the fifth entry of the table; the text "PARIS " lasts 50 dots for a dot of 1, and its duration is proportional to
the dot. -/
theorem cwParisTiming : Obligations.CwParisTiming := by
  refine ⟨fun cfg dot hE => ?_, fun dot => ?_⟩
  · have hcode : morseCode cfg (upper 0x45) = some [.dot] := by
      rw [upper_of_not_lower (by decide), morseCode_of_upper cfg (by decide) (by decide), ← hE]
      exact Vector.getElem?_eq_getElem (by decide)
    have hascii : ascii "E" = [0x45] := by decide
    rw [hascii, cwSymbols_singleton_of_code dot hcode]
    simp [cwCodeShape]
  · rw [cwSymbols_eq_cwShape defaultMorse_codes_ne_nil, sum_dur_cwShape, paris_lasts_fifty_dots, Nat.mul_comm]

end Sys2Proof.Machine

/-! # The RTTY family: rejection, `classify`, the code list, and the laws of the sequence (R160 to R175) -/

namespace Sys2Proof.Machine

-- As in Tests/Slice0.lean: each thread of asynchronous elaboration reserves memory, of which the text before leaves little.
set_option Elab.async false

/-! ## Looking a character up in an ITA2 table (R164) -/

theorem ita2Lookup_eq_some_iff {table : Vector (Option Byte) 32} {c : Byte} {k : Nat} : ita2Lookup table c = some k ↔
    table[k]? = some (some c) ∧ ∀ j, j < k → table[j]? ≠ some (some c) := by
  rw [ita2Lookup, List.idxOf?_eq_some_iff, ← Vector.getElem?_toList]
  constructor
  · rintro ⟨hk, hentry, hleast⟩
    refine ⟨List.getElem?_eq_some_iff.mpr ⟨hk, hentry⟩, fun j hj hsame => ?_⟩
    obtain ⟨_, hj'⟩ := List.getElem?_eq_some_iff.mp (Vector.getElem?_toList.trans hsame)
    exact hleast j hj hj'
  · rintro ⟨hentry, hleast⟩
    obtain ⟨hk, hentry⟩ := List.getElem?_eq_some_iff.mp hentry
    refine ⟨hk, hentry, fun j hj hsame => hleast j hj ?_⟩
    rw [← Vector.getElem?_toList]
    exact List.getElem?_eq_some_iff.mpr ⟨hj.trans hk, hsame⟩

theorem ita2Lookup_eq_none_iff {table : Vector (Option Byte) 32} {c : Byte} :
    ita2Lookup table c = none ↔ ∀ j : Nat, table[j]? ≠ some (some c) := by
  rw [ita2Lookup, List.idxOf?_eq_none_iff, Vector.mem_toList_iff, Vector.mem_iff_getElem?, not_exists]

theorem ita2Control_iff {c : Byte} : ita2Control c = true ↔ c = 0x20 ∨ c = 0x0D ∨ c = 0x0A := by
  simp [ita2Control, or_assoc]

/-! ## `classify` (R164) -/

theorem classify_of_letters {cfg : Config} {b : Byte} {k : Nat} (h : ita2Lookup cfg.ita2Letters (upper b) = some k) :
    classify cfg b = some (BitVec.ofNat 5 k, if ita2Control (upper b) = true then none else some .letters) := by
  simp only [classify, h]

theorem classify_of_figures {cfg : Config} {b : Byte} {k : Nat} (hletters : ita2Lookup cfg.ita2Letters (upper b) = none)
    (h : ita2Lookup cfg.ita2Figures (upper b) = some k) : classify cfg b = some (BitVec.ofNat 5 k, some .figures) := by
  simp only [classify, hletters, h]

theorem classify_of_unencodable {cfg : Config} {b : Byte} (hletters : ita2Lookup cfg.ita2Letters (upper b) = none)
    (hfigures : ita2Lookup cfg.ita2Figures (upper b) = none) : classify cfg b = none := by
  simp only [classify, hletters, hfigures]

/-- Settles O25: each clause is the outcome of the two lookups. -/
theorem rttyClassify : Obligations.RttyClassify := by
  refine fun cfg b => ⟨fun k hentry hleast => ?letters, fun k hletters hentry hleast => ?figures, fun hletters hfigures => ?neither⟩
  case letters =>
    rw [classify_of_letters (ita2Lookup_eq_some_iff.mpr ⟨hentry, hleast⟩)]
    simp only [ita2Control_iff]
  case figures => exact classify_of_figures (ita2Lookup_eq_none_iff.mpr hletters) (ita2Lookup_eq_some_iff.mpr ⟨hentry, hleast⟩)
  case neither => exact classify_of_unencodable (ita2Lookup_eq_none_iff.mpr hletters) (ita2Lookup_eq_none_iff.mpr hfigures)

/-- An index of a table of 32 entries is a code of 5 bits. -/
theorem getElem?_toNat_ofNat {table : Vector (Option Byte) 32} {k : Nat} {e : Option Byte} (h : table[k]? = some e) :
    table[(BitVec.ofNat 5 k).toNat]? = some e := by
  obtain ⟨hk, _⟩ := Vector.getElem?_eq_some_iff.mp h
  rwa [BitVec.toNat_ofNat, Nat.mod_eq_of_lt hk]

/-- All that `classify` can answer for an encodable character: its entry in LETTERS, where a control needs no state, or in FIGURES. -/
theorem classify_cases {cfg : Config} {b : Byte} {k : BitVec 5} {need : Option Shift} (h : classify cfg b = some (k, need)) :
    (cfg.ita2Letters[k.toNat]? = some (some (upper b)) ∧ need = if ita2Control (upper b) = true then none else some .letters) ∨
      (cfg.ita2Figures[k.toNat]? = some (some (upper b)) ∧ need = some .figures) := by
  cases hletters : ita2Lookup cfg.ita2Letters (upper b) with
  | some n =>
    rw [classify_of_letters hletters] at h
    cases h
    exact .inl ⟨getElem?_toNat_ofNat (ita2Lookup_eq_some_iff.mp hletters).1, rfl⟩
  | none =>
    cases hfigures : ita2Lookup cfg.ita2Figures (upper b) with
    | some n =>
      rw [classify_of_figures hletters hfigures] at h
      cases h
      exact .inr ⟨getElem?_toNat_ofNat (ita2Lookup_eq_some_iff.mp hfigures).1, rfl⟩
    | none =>
      rw [classify_of_unencodable hletters hfigures] at h
      cases h

/-- The code of a character stands for it in the table of the state it needs, and in both tables when it needs none. -/
theorem ita2Table_of_classify {cfg : Config} {b : Byte} {k : BitVec 5} {need : Option Shift} {shift : Shift} (htables : ita2Consistent cfg)
    (h : classify cfg b = some (k, need)) (hstate : need = none ∨ need = some shift) :
    (ita2Table cfg shift)[k.toNat]? = some (some (upper b)) := by
  obtain ⟨_, hcontrols⟩ := htables
  obtain ⟨hentry, hneed⟩ | ⟨hentry, rfl⟩ := classify_cases h
  · by_cases hcontrol : ita2Control (upper b) = true
    · cases shift with
      | letters => exact hentry
      | figures => exact hcontrols _ _ hentry hcontrol
    · rw [if_neg hcontrol] at hneed
      subst hneed
      obtain hnone | hshift := hstate
      · cases hnone
      · cases hshift; exact hentry
  · obtain hnone | hshift := hstate
    · cases hnone
    · cases hshift; exact hentry

/-! ## The code list of one more character (R165, R171) -/

theorem rttyCodes_of_unencodable {cfg : Config} (shift : Shift) {b : Byte} (rest : Text) (h : classify cfg b = none) :
    rttyCodes cfg shift (b :: rest) = rttyCodes cfg shift rest := by
  simp only [rttyCodes, h]

theorem rttyCodes_of_same_state {cfg : Config} {shift : Shift} {b : Byte} {k : BitVec 5} {need : Option Shift} (rest : Text)
    (h : classify cfg b = some (k, need)) (hstate : need = none ∨ need = some shift) :
    rttyCodes cfg shift (b :: rest) = k :: rttyCodes cfg shift rest := by
  obtain rfl | rfl := hstate
  · simp only [rttyCodes, h]
  · simp only [rttyCodes, h, if_true]

theorem rttyCodes_of_other_state {cfg : Config} {shift need : Shift} {b : Byte} {k : BitVec 5} (rest : Text)
    (h : classify cfg b = some (k, some need)) (hother : need ≠ shift) :
    rttyCodes cfg shift (b :: rest) = shiftCode need :: k :: rttyCodes cfg need rest := by
  simp only [rttyCodes, h, if_neg hother]

/-- All that one character does to the code list: nothing, its code, or the code of the other state and its code there. -/
theorem rttyCodes_cons_cases (cfg : Config) (shift : Shift) (b : Byte) (rest : Text) :
    (classify cfg b = none ∧ rttyCodes cfg shift (b :: rest) = rttyCodes cfg shift rest) ∨
    (∃ k need, classify cfg b = some (k, need) ∧ (need = none ∨ need = some shift) ∧
      rttyCodes cfg shift (b :: rest) = k :: rttyCodes cfg shift rest) ∨
    ∃ k need, classify cfg b = some (k, some need) ∧
      rttyCodes cfg shift (b :: rest) = shiftCode need :: k :: rttyCodes cfg need rest := by
  match h : classify cfg b with
  | none => exact .inl ⟨rfl, rttyCodes_of_unencodable shift rest h⟩
  | some (k, none) => exact .inr (.inl ⟨k, none, rfl, .inl rfl, rttyCodes_of_same_state rest h (.inl rfl)⟩)
  | some (k, some need) =>
    by_cases hsame : need = shift
    · subst hsame
      exact .inr (.inl ⟨k, some need, rfl, .inr rfl, rttyCodes_of_same_state rest h (.inr rfl)⟩)
    · exact .inr (.inr ⟨k, need, rfl, rttyCodes_of_other_state rest h hsame⟩)

/-! ## What the receiver prints (R161, R173) -/

/-- A shift code prints nothing and sets the state of the receiver, whatever it was. -/
theorem rttyPrint_shiftCode (cfg : Config) (shift need : Shift) (r : List (BitVec 5)) :
    rttyPrint cfg shift (shiftCode need :: r) = rttyPrint cfg need r := by
  cases need <;> rfl

/-- A code with an entry is no shift code, so the receiver prints the entry and keeps its state. -/
theorem rttyPrint_of_entry {cfg : Config} {shift : Shift} {k : BitVec 5} {c : Byte} (r : List (BitVec 5)) (htables : ita2Consistent cfg)
    (h : (ita2Table cfg shift)[k.toNat]? = some (some c)) : rttyPrint cfg shift (k :: r) = c :: rttyPrint cfg shift r := by
  obtain ⟨hshiftCodes, _⟩ := htables
  obtain ⟨hletters, hfigures⟩ := hshiftCodes shift
  have hnotLetters : k ≠ 0x1F := by
    rintro rfl
    cases hletters.symm.trans h
  have hnotFigures : k ≠ 0x1B := by
    rintro rfl
    cases hfigures.symm.trans h
  simp only [rttyPrint, if_neg hnotLetters, if_neg hnotFigures, h]

/-- By induction on the text from any state, since a shift code changes it. -/
theorem rttyPrint_rttyCodes {cfg : Config} (htables : ita2Consistent cfg) (shift : Shift) (text : Text) :
    rttyPrint cfg shift (rttyCodes cfg shift text) = (text.filter fun b => (classify cfg b).isSome).map upper := by
  induction text generalizing shift with
  | nil => rfl
  | cons b rest ih =>
    obtain ⟨hb, hcodes⟩ | ⟨k, need, hb, hstate, hcodes⟩ | ⟨k, need, hb, hcodes⟩ := rttyCodes_cons_cases cfg shift b rest
    · rw [hcodes, ih, List.filter_cons_of_neg (by simp [hb])]
    · rw [hcodes, rttyPrint_of_entry _ htables (ita2Table_of_classify htables hb hstate), ih, List.filter_cons_of_pos (by simp [hb]),
        List.map_cons]
    · rw [hcodes, rttyPrint_shiftCode, rttyPrint_of_entry _ htables (ita2Table_of_classify htables hb (.inr rfl)), ih,
        List.filter_cons_of_pos (by simp [hb]), List.map_cons]

theorem length_rttyCodes_le (cfg : Config) (shift : Shift) (text : Text) :
    (rttyCodes cfg shift text).length ≤ 2 * (text.filter fun b => (classify cfg b).isSome).length := by
  induction text generalizing shift with
  | nil => exact Nat.zero_le _
  | cons b rest ih =>
    obtain ⟨hb, hcodes⟩ | ⟨k, need, hb, _, hcodes⟩ | ⟨k, need, hb, hcodes⟩ := rttyCodes_cons_cases cfg shift b rest
    · rw [hcodes, List.filter_cons_of_neg (by simp [hb])]
      exact ih shift
    · have hrest := ih shift
      rw [hcodes, List.filter_cons_of_pos (by simp [hb]), List.length_cons, List.length_cons]
      omega
    · have hrest := ih need
      rw [hcodes, List.filter_cons_of_pos (by simp [hb]), List.length_cons, List.length_cons, List.length_cons]
      omega

/-- Settles O26: the code list character by character, and what a receiver prints of it by induction on the text. -/
theorem rttyCodesPrintTheText : Obligations.RttyCodesPrintTheText := by
  refine ⟨fun cfg shift b rest => ⟨rfl, rttyCodes_of_unencodable shift rest, fun k hsame => ?same, fun k hfigures hshift => ?figures,
    fun k hletters hshift => ?letters⟩, fun cfg text htables => ⟨rttyPrint_rttyCodes htables _ text, length_rttyCodes_le cfg _ text⟩⟩
  case same =>
    obtain h | h := hsame
    · exact rttyCodes_of_same_state rest h (.inl rfl)
    · exact rttyCodes_of_same_state rest h (.inr rfl)
  case figures =>
    subst hshift
    exact rttyCodes_of_other_state rest hfigures (by decide)
  case letters =>
    subst hshift
    exact rttyCodes_of_other_state rest hletters (by decide)

/-! ## The durations and the rejection (R166, R168) -/

/-- For a positive baud rate the floor of R166 is not negative. -/
theorem rttyBitDur_eq_floor {baud : Rat} (h : 0 < baud) : (rttyBitDur baud : Int) = ((1000000 : Rat) / baud).floor :=
  Int.toNat_of_nonneg (Rat.le_floor_iff.mpr (div_nonneg (by norm_num) h.le))

theorem rttyStopDur_eq_floor (bitDur : Nat) {stopBits : Rat} (h : 0 < stopBits) :
    (rttyStopDur bitDur stopBits : Int) = ((bitDur : Rat) * stopBits).floor :=
  Int.toNat_of_nonneg (Rat.le_floor_iff.mpr (mul_nonneg (Nat.cast_nonneg bitDur) h.le))

/-- The two integer floors of the record of a command, which R168 compares; `rttyDurations_eq_floors` ties them to the durations of the
engine. -/
structure RttyFloors (o : EncRttyOpr) (bit stop : Int) : Prop where
  bit_eq : bit = ((1000000 : Rat) / o.baudRate).floor
  stop_eq : stop = ((bit : Rat) * o.stopBits).floor

theorem rttyDurations_eq_floors {o : EncRttyOpr} {bit stop : Int} (hfloors : RttyFloors o bit stop) (hbaud : 0 < o.baudRate)
    (hstop : 0 < o.stopBits) : bit = rttyBitDur o.baudRate ∧ stop = rttyStopDur (rttyBitDur o.baudRate) o.stopBits := by
  have hbit : bit = rttyBitDur o.baudRate := hfloors.bit_eq.trans (rttyBitDur_eq_floor hbaud).symm
  refine ⟨hbit, hfloors.stop_eq.trans ?_⟩
  rw [hbit, rttyStopDur_eq_floor _ hstop, Int.cast_natCast]

theorem rttyRejected_eq_false_iff {o : EncRttyOpr} : rttyRejected o = false ↔ 0 < o.baudRate ∧ 0 < o.stopBits ∧
    (1 ≤ rttyBitDur o.baudRate ∧ rttyBitDur o.baudRate ≤ 2 ^ 32 - 1) ∧
      1 ≤ rttyStopDur (rttyBitDur o.baudRate) o.stopBits ∧ rttyStopDur (rttyBitDur o.baudRate) o.stopBits ≤ 2 ^ 32 - 1 := by
  simp only [rttyRejected, Bool.or_eq_false_iff, decide_eq_false_iff_not, not_le, not_lt, ← Nat.one_le_iff_ne_zero]
  tauto

/-- The rejection of R168 in the integer floors of the rule. -/
theorem rttyRejected_eq_true_iff {o : EncRttyOpr} {bit stop : Int} (hfloors : RttyFloors o bit stop) : rttyRejected o = true ↔
    o.baudRate ≤ 0 ∨ o.stopBits ≤ 0 ∨ bit = 0 ∨ stop = 0 ∨ 2 ^ 32 - 1 < bit ∨ 2 ^ 32 - 1 < stop := by
  rw [← Bool.not_eq_false, rttyRejected_eq_false_iff]
  by_cases hbaud : o.baudRate ≤ 0
  · simp [hbaud, hbaud.not_gt]
  by_cases hstop : o.stopBits ≤ 0
  · simp [hstop, hstop.not_gt]
  obtain ⟨hbit, hstopDur⟩ := rttyDurations_eq_floors hfloors (not_le.mp hbaud) (not_le.mp hstop)
  simp only [hbaud, hstop, not_le.mp hbaud, not_le.mp hstop, hbit, hstopDur, true_and, false_or]
  omega

theorem recordValid_encRtty_eq_false_iff {cfg : Config} {o : EncRttyOpr} {bit stop : Int} (hfloors : RttyFloors o bit stop) :
    recordValid cfg (.encRtty o) = false ↔ cfg.textMax < o.text.length ∨ o.baudRate ≤ 0 ∨ o.stopBits ≤ 0 ∨ bit = 0 ∨ stop = 0 ∨
      2 ^ 32 - 1 < bit ∨ 2 ^ 32 - 1 < stop := by
  simp only [recordValid, Bool.and_eq_false_iff, textOk, lenIn_zero_eq_false_iff, Bool.not_eq_false', rttyRejected_eq_true_iff hfloors]

/-! ## The completions of `ENC_RTTY` (R168, R170, R172) -/

/-- A record in the domain at rates that R168 admits gets the capacity check (R172) and then its sequence. -/
theorem exec_encRtty_of_valid {s : State} {o : EncRttyOpr} (hopr : s.opr = .record (.encRtty o))
    (hvalid : recordValid s.cfg (.encRtty o) = true) :
    exec .encRtty s = .next (if s.cfg.symCap < 7 * (rttyCodes s.cfg .letters o.text).length then
        errorCompletion (.sequence .rtty o.base) .allocationError s
      else completeSeq .rtty o.base (rttySymbols o (rttyCodes s.cfg .letters o.text)) s) := by
  obtain ⟨htext, haccepted⟩ := Bool.and_eq_true_iff.mp hvalid
  rw [Bool.not_eq_true'] at haccepted
  simp only [exec, execEncRtty, hopr, Opr.encRtty_record, htext, haccepted, Bool.not_true, Bool.or_false, Bool.false_eq_true, if_false]
  split <;> rfl

/-- Settles O23: the failed check of the record (R96, R168), and after it the capacity check (R172). -/
theorem rttyRejects : Obligations.RttyRejects := by
  intro s o hopr
  dsimp only
  refine ⟨fun hbad => exec_of_invalid_record hopr ((recordValid_encRtty_eq_false_iff ⟨rfl, rfl⟩).mpr hbad), fun hgood hroom => ?_⟩
  rw [← recordValid_encRtty_eq_false_iff (cfg := s.cfg) ⟨rfl, rfl⟩, Bool.not_eq_false] at hgood
  rw [exec_encRtty_of_valid hopr hgood, if_pos hroom]
  rfl

/-! ## The symbols of a code list (R167, R169, R170) -/

/-- The tones of R167 by the two flags: one side of the carrier or both, and which of the two is mark. -/
theorem rttyTones_eq (o : EncRttyOpr) :
    let low : Rat := if o.centerOnCarrier = true then -((o.shiftHz.toNat : Rat) / 2) else 0
    let high : Rat := if o.centerOnCarrier = true then (o.shiftHz.toNat : Rat) / 2 else (o.shiftHz.toNat : Rat)
    rttyTones o = (if o.reverseShift = true then high else low, if o.reverseShift = true then low else high) := by
  unfold rttyTones
  cases o.reverseShift <;> cases o.centerOnCarrier <;> rfl

/-- Settles O24: the record passes its check and fits, the durations are the floors, and the seven symbols of a code are those of R169. -/
theorem rttyCompletes : Obligations.RttyCompletes := by
  intro s o hopr
  dsimp only
  generalize hbit : ((1000000 : Rat) / o.baudRate).floor = bit
  generalize hstop : ((bit : Rat) * o.stopBits).floor = stop
  intro htext hbaud hstopBits hbitLo hbitHi hstopLo hstopHi hroom
  have hfloors : RttyFloors o bit stop := ⟨hbit.symm, hstop.symm⟩
  have hvalid : recordValid s.cfg (.encRtty o) = true := by
    simp only [← Bool.not_eq_false, recordValid_encRtty_eq_false_iff hfloors, not_or, not_lt, not_le]
    exact ⟨htext, hbaud, hstopBits, by omega, by omega, hbitHi, hstopHi⟩
  obtain ⟨rfl, rfl⟩ := rttyDurations_eq_floors hfloors hbaud hstopBits
  rw [exec_encRtty_of_valid hopr hvalid, if_neg (Nat.not_lt.mpr hroom), completeSeq, length_rttySymbols, rttySymbols, rttyTones_eq]
  simp only [BitVec.ofInt_natCast]
  rfl

theorem symbol_of_mem_rttyCodeSymbols {mark space : Rat} {bitDur stopDur : Nat} {k : BitVec 5} {y : TxSymbol}
    (hy : y ∈ rttyCodeSymbols mark space bitDur stopDur k) : y.on = true ∧ (y.freq = mark ∨ y.freq = space) := by
  simp only [rttyCodeSymbols, List.mem_append, List.mem_cons, List.mem_map, List.not_mem_nil, or_false] at hy
  obtain (rfl | ⟨i, _, rfl⟩) | rfl := hy
  · exact ⟨rfl, .inr rfl⟩
  · exact ⟨rfl, ite_eq_or_eq _ _ _⟩
  · exact ⟨rfl, .inl rfl⟩

theorem symbol_of_mem_rttySymbols {o : EncRttyOpr} {codes : List (BitVec 5)} {y : TxSymbol} (hy : y ∈ rttySymbols o codes) :
    y.on = true ∧ (y.freq = (rttyTones o).1 ∨ y.freq = (rttyTones o).2) := by
  obtain ⟨k, _, hk⟩ := List.mem_flatMap.mp hy
  exact symbol_of_mem_rttyCodeSymbols hk

theorem onAirTime_append (S T : List TxSymbol) : onAirTime (S ++ T) = onAirTime S + onAirTime T := by
  simp [onAirTime]

/-- Start bit, five data bits and stop bit, when the durations fit 32 bits. -/
theorem onAirTime_rttyCodeSymbols (mark space : Rat) {bitDur stopDur : Nat} (hbit : bitDur ≤ 2 ^ 32 - 1) (hstop : stopDur ≤ 2 ^ 32 - 1)
    (k : BitVec 5) : onAirTime (rttyCodeSymbols mark space bitDur stopDur k) = 6 * bitDur + stopDur := by
  have hbitMod : bitDur % 2 ^ 32 = bitDur := Nat.mod_eq_of_lt (by omega)
  have hstopMod : stopDur % 2 ^ 32 = stopDur := Nat.mod_eq_of_lt (by omega)
  simp only [onAirTime, rttyCodeSymbols, List.range_succ, List.range_zero, List.nil_append, List.map_cons, List.map_nil,
    List.cons_append, List.sum_cons, List.sum_nil, BitVec.toNat_ofNat, hbitMod, hstopMod]
  omega

theorem onAirTime_rttySymbols {o : EncRttyOpr} (haccepted : rttyRejected o = false) (codes : List (BitVec 5)) :
    onAirTime (rttySymbols o codes) =
      codes.length * (6 * rttyBitDur o.baudRate + rttyStopDur (rttyBitDur o.baudRate) o.stopBits) := by
  obtain ⟨_, _, ⟨_, hbit⟩, _, hstop⟩ := rttyRejected_eq_false_iff.mp haccepted
  rw [rttySymbols]
  induction codes with
  | nil => simp [onAirTime]
  | cons k ks ih =>
    rw [List.flatMap_cons, onAirTime_append, onAirTime_rttyCodeSymbols _ _ hbit hstop, ih, List.length_cons, Nat.succ_mul ks.length]
    exact Nat.add_comm _ _

/-! ## The laws of a completed sequence (R175, R361) -/

/-- A command that completes with OK had a record that R168 admits, and hands over the symbols of its code list. -/
theorem encRtty_of_status_ok {s t : State} {o : EncRttyOpr} (hopr : s.opr = .record (.encRtty o)) (h : exec .encRtty s = .next t)
    (hok : t.status = .ok) : rttyRejected o = false ∧
      t = completeSeq .rtty o.base (rttySymbols o (rttyCodes s.cfg .letters o.text)) s := by
  cases hvalid : recordValid s.cfg (.encRtty o) with
  | false =>
    have hfail : exec .encRtty s = _ := exec_of_invalid_record hopr hvalid
    rw [hfail] at h
    cases h
    cases hok
  | true =>
    obtain ⟨_, haccepted⟩ := Bool.and_eq_true_iff.mp hvalid
    rw [exec_encRtty_of_valid hopr hvalid] at h
    split at h
    · cases h; cases hok
    · cases h; exact ⟨Bool.not_eq_true' _ ▸ haccepted, rfl⟩

theorem eq_none_or_letters_of_ne_figures {need : Option Shift} (h : need ≠ some .figures) : need = none ∨ need = some .letters := by
  match need with
  | none => exact .inl rfl
  | some .letters => exact .inr rfl
  | some .figures => exact absurd rfl h

/-- Settles O27: the laws of the symbols of any code list, and the code lists of the two texts of R175. -/
theorem rttySequenceLaws : Obligations.RttySequenceLaws := by
  intro s t o hopr h hok
  obtain ⟨haccepted, rfl⟩ := encRtty_of_status_ok hopr h hok
  have hlen := length_rttySymbols o (rttyCodes s.cfg .letters o.text)
  refine ⟨hlen ▸ Nat.mul_mod_right _ _, rfl, fun y => symbol_of_mem_rttySymbols, ?onAir, fun b k need htext hb hneed => ?one,
    fun b c k j need htext hb hneed hc => ?two⟩
  case onAir =>
    show onAirTime (rttySymbols _ _) = (rttySymbols _ _).length / 7 * _
    rw [hlen, Nat.mul_div_cancel_left _ (by decide), onAirTime_rttySymbols haccepted]
  case one =>
    refine hlen.trans ?_
    rw [htext, rttyCodes_of_same_state _ hb (eq_none_or_letters_of_ne_figures hneed)]
    rfl
  case two =>
    refine hlen.trans ?_
    rw [htext, rttyCodes_of_same_state _ hb (eq_none_or_letters_of_ne_figures hneed), rttyCodes_of_other_state _ hc (by decide)]
    rfl

end Sys2Proof.Machine

/-! # The WSPR family: rejection, the packings, the convolutional code, the interleaver, and the sequence (R190 to R219) -/

namespace Sys2Proof.Machine

-- As in Tests/Slice0.lean: each thread of asynchronous elaboration reserves memory, of which the text before leaves little.
set_option Elab.async false

/-! ## The clauses of the validation (R192, R193) -/

theorem isLetter_iff {c : Byte} : isLetter c = true ↔ (0x41 ≤ c.toNat ∧ c.toNat ≤ 0x5A) ∨ (0x61 ≤ c.toNat ∧ c.toNat ≤ 0x7A) := by
  rw [isLetter, Bool.or_eq_true, isUpper_iff, isLower_iff]

theorem upperUpTo_iff {hi : Nat} {c : Byte} : upperUpTo hi c = true ↔ 0x41 ≤ c.toNat ∧ c.toNat ≤ hi := by simp [upperUpTo]

theorem byte_eq_iff_toNat {c d : Byte} : c = d ↔ c.toNat = d.toNat := BitVec.toNat_inj.symm

theorem wsprCallChar_iff {c : Byte} : wsprCallChar c = true ↔ (0x30 ≤ c.toNat ∧ c.toNat ≤ 0x39) ∨ (0x41 ≤ c.toNat ∧ c.toNat ≤ 0x5A) ∨
    (0x61 ≤ c.toNat ∧ c.toNat ≤ 0x7A) ∨ c.toNat = 0x2F := by
  rw [wsprCallChar, Bool.or_eq_true, Bool.or_eq_true, isDigit_iff, isLetter_iff, beq_iff_eq, byte_eq_iff_toNat, or_assoc, or_assoc]
  rfl

theorem wsprGridOk_cells {g0 g1 g2 g3 : Byte} : wsprGridOk [g0, g1, g2, g3] = true ↔
    0x41 ≤ g0.toNat ∧ g0.toNat ≤ 0x52 ∧ 0x41 ≤ g1.toNat ∧ g1.toNat ≤ 0x52 ∧
      0x30 ≤ g2.toNat ∧ g2.toNat ≤ 0x39 ∧ 0x30 ≤ g3.toNat ∧ g3.toNat ≤ 0x39 := by
  simp only [wsprGridOk, Bool.and_eq_true, upperUpTo_iff, isDigit_iff, and_assoc]

/-- Only a grid of four characters passes. -/
theorem wsprGridOk_iff {g : Text} : wsprGridOk g = true ↔ ∃ g0 g1 g2 g3 : Byte, g = [g0, g1, g2, g3] ∧
    0x41 ≤ g0.toNat ∧ g0.toNat ≤ 0x52 ∧ 0x41 ≤ g1.toNat ∧ g1.toNat ≤ 0x52 ∧
      0x30 ≤ g2.toNat ∧ g2.toNat ≤ 0x39 ∧ 0x30 ≤ g3.toNat ∧ g3.toNat ≤ 0x39 := by
  constructor
  · intro h
    match g, h with
    | [g0, g1, g2, g3], h => exact ⟨g0, g1, g2, g3, rfl, wsprGridOk_cells.mp h⟩
  · rintro ⟨g0, g1, g2, g3, rfl, h⟩
    exact wsprGridOk_cells.mpr h

theorem wsprValid_iff {o : EncWsprOpr} : wsprValid o = true ↔
    2 ≤ o.callsign.val.length ∧ o.callsign.val.length ≤ 6 ∧ (∀ c ∈ o.callsign.val, wsprCallChar c = true) ∧
      wsprGridOk o.grid.val = true ∧ o.powerDbm.toInt ∈ wsprPowers := by
  simp only [wsprValid, Bool.and_eq_true, lenIn_iff, List.all_eq_true, List.contains_iff_mem, and_assoc]

theorem wsprPowers_bounds : ∀ p ∈ wsprPowers, 0 ≤ p ∧ p ≤ 60 := by decide

/-! ## The completions of `ENC_WSPR` (R192, R215, R216) -/

/-- A record that passes the clauses gets the capacity check, and after it the check that its callsign is representable. -/
theorem exec_encWspr_of_valid {s : State} {o : EncWsprOpr} (hopr : s.opr = .record (.encWspr o)) (hvalid : wsprValid o = true) :
    exec .encWspr s =
      if s.cfg.symCap < 162 then .next (errorCompletion (.sequence .wspr o.base) .allocationError s)
      else if wsprRepresentable (wsprC6 o.callsign.val) = true then .next (completeSeq .wspr o.base
        ((wsprToneStage s.cfg (wsprC6 o.callsign.val) o.grid.val o.powerDbm.toInt).toList.map wsprSymbol) s)
      else .refused .wsprUnrepresentable := by
  simp only [exec, execEncWspr, hopr, Opr.encWspr_record, hvalid, Bool.not_true, Bool.false_eq_true, if_false]
  split
  · rfl
  · cases wsprRepresentable (wsprC6 o.callsign.val) <;> rfl

/-- Settles O28: the failed check of the record (R192), and after it the capacity check (R216). -/
theorem wsprRejects : Obligations.WsprRejects := by
  intro s o hopr
  dsimp only
  have hclauses := wsprValid_iff (o := o)
  simp only [wsprCallChar_iff, wsprGridOk_iff] at hclauses
  refine ⟨hclauses, fun hbad => ?invalid, fun hgood hroom => ?noRoom⟩
  case invalid =>
    exact exec_of_invalid_record hopr (Bool.eq_false_iff.mpr (mt hclauses.mp hbad))
  case noRoom =>
    rw [exec_encWspr_of_valid hopr (hclauses.mpr hgood), if_pos hroom]
    rfl

/-! ## The symbols (R210, R212, R213) -/

theorem onAirTime_map_wsprSymbol (tones : List Nat) : onAirTime (tones.map wsprSymbol) = tones.length * 682667 := by
  simp [onAirTime, wsprSymbol, Function.comp_def]

theorem getElem?_toList_wsprTones (sync ilv : Vector Bool 162) {k : Nat} (h : k < 162) :
    (wsprTones sync ilv).toList[k]? = some (2 * ilv[k].toNat + sync[k].toNat) := by
  simp [wsprTones, h]

theorem wsprSymbol_eq (tone : Nat) : wsprSymbol tone = { freq := (tone : Rat) * (14648 / 10000), dur := 682667, on := true } := by
  have hfreq : mkRat (tone * 14648) 10000 = (tone : Rat) * (14648 / 10000) := by
    rw [Rat.mkRat_eq_div]
    push_cast
    ring
  rw [wsprSymbol, hfreq]

theorem wsprTone_le (data sync : Bool) : 2 * data.toNat + sync.toNat ≤ 3 := by
  have hdata := Bool.toNat_le data
  have hsync := Bool.toNat_le sync
  omega

/-- Settles O29: the record passes its checks, and symbol `k` is that of tone `k`. -/
theorem wsprCompletes : Obligations.WsprCompletes := by
  intro s o hopr
  dsimp only
  intro hvalid hroom hrep
  refine ⟨(wsprToneStage s.cfg (wsprC6 o.callsign.val) o.grid.val o.powerDbm.toInt).toList.map wsprSymbol, ?completes, ?length, ?onAir,
    fun k hk => ⟨wsprTone_le _ _, ?symbol⟩⟩
  case completes =>
    rw [exec_encWspr_of_valid hopr hvalid, if_neg (Nat.not_lt.mpr hroom), if_pos hrep, completeSeq, List.length_map, Vector.length_toList]
  case length => rw [List.length_map, Vector.length_toList]
  case onAir => rw [onAirTime_map_wsprSymbol, Vector.length_toList]
  case symbol => rw [List.getElem?_map, wsprToneStage, getElem?_toList_wsprTones _ _ hk, Option.map_some, wsprSymbol_eq]

/-! ## The callsign (R196 to R200) -/

theorem wsprC6_of_shifted {c0 c1 : Byte} (rest : Text) (h : (isLetter c0 && isDigit c1) = true) :
    wsprC6 (c0 :: c1 :: rest) = space :: (c0 :: c1 :: rest) ++ List.replicate (5 - (c0 :: c1 :: rest).length) space := by
  rw [wsprC6, wsprShifted, if_pos h, padRight, List.length_cons (a := space), Nat.add_sub_add_right 5 1]

theorem wsprC6_of_unshifted {c0 c1 : Byte} (rest : Text) (h : (isLetter c0 && isDigit c1) = false) :
    wsprC6 (c0 :: c1 :: rest) = c0 :: c1 :: rest ++ List.replicate (6 - (c0 :: c1 :: rest).length) space := by
  rw [wsprC6, wsprShifted, if_neg (Bool.eq_false_iff.mp h), padRight]

theorem wsprRepresentable_cells {c0 c1 c2 c3 c4 c5 : Byte} : wsprRepresentable [c0, c1, c2, c3, c4, c5] = true ↔
    (c0 = space ∨ isDigit c0 = true ∨ isUpper c0 = true) ∧ (isDigit c1 = true ∨ isUpper c1 = true) ∧ isDigit c2 = true ∧
      (isUpper c3 = true ∨ c3 = space) ∧ (isUpper c4 = true ∨ c4 = space) ∧ (isUpper c5 = true ∨ c5 = space) := by
  simp only [wsprRepresentable, Bool.and_eq_true, Bool.or_eq_true, beq_iff_eq, and_assoc, or_assoc]

theorem eq_space_iff {c : Byte} : c = space ↔ c.toNat = 0x20 := byte_eq_iff_toNat

/-- A form that is not of six characters is not representable. -/
theorem cells_of_wsprRepresentable {a : Text} (h : wsprRepresentable a = true) :
    ∃ c0 c1 c2 c3 c4 c5 : Byte, a = [c0, c1, c2, c3, c4, c5] := by
  match a, h with
  | [c0, c1, c2, c3, c4, c5], _ => exact ⟨c0, c1, c2, c3, c4, c5, rfl⟩

theorem wsprCode_of_digit {c : Byte} (h : isDigit c = true) : wsprCode c + 0x30 = c.toNat := by
  obtain ⟨hlo, _⟩ := isDigit_iff.mp h
  rw [wsprCode, if_pos h, digitVal, Nat.sub_add_cancel hlo]

theorem wsprCode_of_upper {c : Byte} (h : isUpper c = true) : wsprCode c + 0x41 = c.toNat + 10 := by
  obtain ⟨hlo, hhi⟩ := isUpper_iff.mp h
  have hdigit : ¬isDigit c = true := by rw [isDigit_iff]; omega
  rw [wsprCode, if_neg hdigit, if_pos h, letterVal]
  omega

@[simp] theorem wsprCode_space : wsprCode space = 36 := by decide

/-- The characters that have a code of their own (R198): a digit, an upper-case letter, a space. -/
def WsprCoded (c : Byte) : Prop := isDigit c = true ∨ isUpper c = true ∨ c = space

/-- The code of such a character tells its kind: 0 to 9, 10 to 35, 36. -/
theorem WsprCoded.cases {c : Byte} (h : WsprCoded c) : (wsprCode c ≤ 9 ∧ wsprCode c + 0x30 = c.toNat) ∨
    (10 ≤ wsprCode c ∧ wsprCode c ≤ 35 ∧ wsprCode c + 0x41 = c.toNat + 10) ∨ (wsprCode c = 36 ∧ c.toNat = 0x20) := by
  obtain hdigit | hupper | rfl := h
  · have hcode := wsprCode_of_digit hdigit
    have hrange := isDigit_iff.mp hdigit
    omega
  · have hcode := wsprCode_of_upper hupper
    have hrange := isUpper_iff.mp hupper
    omega
  · exact .inr (.inr ⟨wsprCode_space, rfl⟩)

theorem WsprCoded.code_inj {c d : Byte} (hc : WsprCoded c) (hd : WsprCoded d) (h : wsprCode c = wsprCode d) : c = d := by
  have hcCases := hc.cases
  have hdCases := hd.cases
  rw [byte_eq_iff_toNat]
  omega

/-- What the value of a representable form needs of its six characters: each has a code, in the range of its place (R199, R200). -/
structure WsprCells (c0 c1 c2 c3 c4 c5 : Byte) : Prop where
  coded : WsprCoded c0 ∧ WsprCoded c1 ∧ WsprCoded c2 ∧ WsprCoded c3 ∧ WsprCoded c4 ∧ WsprCoded c5
  code0 : wsprCode c0 ≤ 36
  code1 : wsprCode c1 ≤ 35
  code2 : wsprCode c2 ≤ 9
  code3 : 10 ≤ wsprCode c3 ∧ wsprCode c3 ≤ 36
  code4 : 10 ≤ wsprCode c4 ∧ wsprCode c4 ≤ 36
  code5 : 10 ≤ wsprCode c5 ∧ wsprCode c5 ≤ 36

theorem wsprCode_le_of_coded {c : Byte} (h : WsprCoded c) : wsprCode c ≤ 36 := by
  have hcases := h.cases
  omega

theorem wsprCode_le_of_digit {c : Byte} (h : isDigit c = true) : wsprCode c ≤ 9 := by
  have hcode := wsprCode_of_digit h
  have hrange := isDigit_iff.mp h
  omega

theorem wsprCode_bounds_of_upper {c : Byte} (h : isUpper c = true) : 10 ≤ wsprCode c ∧ wsprCode c ≤ 35 := by
  have hcode := wsprCode_of_upper h
  have hrange := isUpper_iff.mp h
  omega

theorem wsprCode_bounds_of_upper_or_space {c : Byte} (h : isUpper c = true ∨ c = space) : 10 ≤ wsprCode c ∧ wsprCode c ≤ 36 := by
  obtain h | rfl := h
  · obtain ⟨hlo, hhi⟩ := wsprCode_bounds_of_upper h
    exact ⟨hlo, hhi.trans (by decide)⟩
  · decide

theorem wsprCells_of_representable {c0 c1 c2 c3 c4 c5 : Byte} (h : wsprRepresentable [c0, c1, c2, c3, c4, c5] = true) :
    WsprCells c0 c1 c2 c3 c4 c5 := by
  obtain ⟨h0, h1, h2, h3, h4, h5⟩ := wsprRepresentable_cells.mp h
  have hcoded0 : WsprCoded c0 := by
    obtain h0 | h0 | h0 := h0
    · exact .inr (.inr h0)
    · exact .inl h0
    · exact .inr (.inl h0)
  exact
    { coded := ⟨hcoded0, h1.imp_right .inl, .inl h2, .inr h3, .inr h4, .inr h5⟩
      code0 := wsprCode_le_of_coded hcoded0
      code1 := h1.elim (fun hdigit => (wsprCode_le_of_digit hdigit).trans (by decide)) fun hupper => (wsprCode_bounds_of_upper hupper).2
      code2 := wsprCode_le_of_digit h2
      code3 := wsprCode_bounds_of_upper_or_space h3
      code4 := wsprCode_bounds_of_upper_or_space h4
      code5 := wsprCode_bounds_of_upper_or_space h5 }

theorem wsprN_cells (c0 c1 c2 c3 c4 c5 : Byte) : wsprN [c0, c1, c2, c3, c4, c5] =
    ((((wsprCode c0 * 36 + wsprCode c1) * 10 + wsprCode c2) * 27 + (wsprCode c3 - 10)) * 27 + (wsprCode c4 - 10)) * 27 +
      (wsprCode c5 - 10) := by
  simp [wsprN, mixed]

theorem wsprN_le {a : Text} (h : wsprRepresentable a = true) : wsprN a ≤ 262177559 := by
  obtain ⟨c0, c1, c2, c3, c4, c5, rfl⟩ := cells_of_wsprRepresentable h
  obtain ⟨_, h0, h1, h2, ⟨_, h3⟩, ⟨_, h4⟩, ⟨_, h5⟩⟩ := wsprCells_of_representable h
  rw [wsprN_cells]
  omega

/-- One digit of a mixed-radix value. -/
theorem radix_digit_inj {r q q' x x' : Nat} (hx : x < r) (hx' : x' < r) (h : q * r + x = q' * r + x') : q = q' ∧ x = x' := by
  have hr : 0 < r := Nat.zero_lt_of_lt hx
  obtain ⟨hdiv, hmod⟩ := (Nat.div_mod_unique (d := q) hr).mpr ⟨by rw [Nat.mul_comm, Nat.add_comm, h], hx⟩
  obtain ⟨hdiv', hmod'⟩ := (Nat.div_mod_unique (d := q') hr).mpr ⟨by rw [Nat.mul_comm, Nat.add_comm], hx'⟩
  exact ⟨hdiv.symm.trans hdiv', hmod.symm.trans hmod'⟩

/-- Digit by digit from the right; each code gives its character back. -/
theorem wsprN_inj {a b : Text} (ha : wsprRepresentable a = true) (hb : wsprRepresentable b = true) (h : wsprN a = wsprN b) : a = b := by
  obtain ⟨c0, c1, c2, c3, c4, c5, rfl⟩ := cells_of_wsprRepresentable ha
  obtain ⟨d0, d1, d2, d3, d4, d5, rfl⟩ := cells_of_wsprRepresentable hb
  obtain ⟨⟨hc0, hc1, hc2, hc3, hc4, hc5⟩, _, hcLe1, hcLe2, hcIn3, hcIn4, hcIn5⟩ := wsprCells_of_representable ha
  obtain ⟨⟨hd0, hd1, hd2, hd3, hd4, hd5⟩, _, hdLe1, hdLe2, hdIn3, hdIn4, hdIn5⟩ := wsprCells_of_representable hb
  rw [wsprN_cells, wsprN_cells] at h
  obtain ⟨h, heq5⟩ := radix_digit_inj (by omega) (by omega) h
  obtain ⟨h, heq4⟩ := radix_digit_inj (by omega) (by omega) h
  obtain ⟨h, heq3⟩ := radix_digit_inj (by omega) (by omega) h
  obtain ⟨h, heq2⟩ := radix_digit_inj (by omega) (by omega) h
  obtain ⟨heq0, heq1⟩ := radix_digit_inj (by omega) (by omega) h
  rw [hc0.code_inj hd0 heq0, hc1.code_inj hd1 heq1, hc2.code_inj hd2 heq2, hc3.code_inj hd3 (by omega), hc4.code_inj hd4 (by omega),
    hc5.code_inj hd5 (by omega)]

/-- Settles O30: the canonical form by the first two characters, the cells of a representable form and their codes, and the value. -/
theorem wsprCallsignPacking : Obligations.WsprCallsignPacking := by
  refine ⟨fun call hlo _ => ?form, fun c0 c1 c2 c3 c4 c5 => ?representable, fun c6 hlen => ?length,
    fun c => ⟨fun hlo hhi => wsprCode_of_digit (isDigit_iff.mpr ⟨hlo, hhi⟩), fun hlo hhi => wsprCode_of_upper (isUpper_iff.mpr ⟨hlo, hhi⟩),
      fun hspace => eq_space_iff.mpr hspace ▸ wsprCode_space⟩,
    fun c0 c1 c2 c3 c4 c5 _ => wsprN_cells c0 c1 c2 c3 c4 c5, fun _ => wsprN_le, fun _ _ => wsprN_inj⟩
  case form =>
    match call, hlo with
    | c0 :: c1 :: rest, _ => exact ⟨wsprC6_of_shifted rest, wsprC6_of_unshifted rest⟩
  case representable =>
    dsimp only
    simp only [wsprRepresentable_cells, isDigit_iff, isUpper_iff, eq_space_iff]
  case length =>
    rw [Bool.eq_false_iff]
    intro hrep
    obtain ⟨c0, c1, c2, c3, c4, c5, rfl⟩ := cells_of_wsprRepresentable hrep
    exact hlen rfl

/-! ## The grid and the power (R201, R202) -/

/-- Settles O31: with the characters of the grid and the power in their ranges, no subtraction of the formula is cut off at 0. -/
theorem wsprGridPowerPacking : Obligations.WsprGridPowerPacking := by
  intro o g0 g1 g2 g3 hvalid hgrid
  obtain ⟨_, _, _, hcells, hpower⟩ := wsprValid_iff.mp hvalid
  rw [hgrid, wsprGridOk_cells] at hcells
  have hbounds := wsprPowers_bounds _ hpower
  simp only [hgrid, wsprM, letterVal, digitVal]
  omega

/-! ## The packed buffer (R203) -/

/-- A field inside the one written reads as the bits of the value that stand there. -/
theorem bufRead_bufWrite_within {n : Nat} (B : Buf n) {off w o u : Nat} (v : Nat) (h : off + w ≤ 8 * n) (hlo : off ≤ o)
    (hhi : o + u ≤ off + w) : bufRead (bufWrite B off w v) o u = v / 2 ^ (off + w - (o + u)) % 2 ^ u := by
  apply Nat.eq_of_testBit_eq
  intro j
  rw [testBit_bufRead, Nat.testBit_mod_two_pow, Nat.testBit_div_two_pow]
  by_cases hj : j < u
  · rw [bufBit_bufWrite _ _ _ _ _ h, if_pos (by omega), show off + w - 1 - (o + u - 1 - j) = j + (off + w - (o + u)) by omega]
  · simp [hj]

/-- Two neighbouring fields are one. -/
theorem bufRead_add {n : Nat} (B : Buf n) (off a b : Nat) : bufRead B off (a + b) = bufRead B off a * 2 ^ b + bufRead B (off + a) b := by
  induction b with
  | zero => simp [bufRead]
  | succ b ih => rw [← Nat.add_assoc, bufRead, ih, bufRead, Nat.pow_succ, ← Nat.add_assoc off a b]; ring

theorem bufRead_replicate_zero (n off w : Nat) : bufRead (Vector.replicate n (0 : Byte)) off w = 0 := by
  induction w with
  | zero => rfl
  | succ w ih => rw [bufRead, ih, bufBit_replicate_zero]; rfl

/-- The bytes of a buffer are its fields of eight bits. -/
theorem toList_map_toNat {n : Nat} (B : Buf n) : B.toList.map (fun b => b.toNat) = (List.range n).map fun i => bufRead B (8 * i) 8 := by
  refine List.ext_getElem (by simp) fun i hi _ => ?_
  have hin : i < n := by simpa using hi
  simp [bufRead_byte, hin]

theorem bufRead_wsprPack_call (N M : Nat) {o u : Nat} (h : o + u ≤ 28) :
    bufRead (wsprPack N M) o u = N / 2 ^ (28 - (o + u)) % 2 ^ u := by
  rw [wsprPack, bufRead_bufWrite_disjoint _ _ _ _ _ _ (by omega) (.inl h),
    bufRead_bufWrite_within _ _ (by omega) (Nat.zero_le _) (by omega), Nat.zero_add]

theorem bufRead_wsprPack_gridPower (N M : Nat) {o u : Nat} (hlo : 28 ≤ o) (hhi : o + u ≤ 50) :
    bufRead (wsprPack N M) o u = M / 2 ^ (50 - (o + u)) % 2 ^ u := by
  rw [wsprPack, bufRead_bufWrite_within _ _ (by omega) hlo hhi]

theorem bufRead_wsprPack_padding (N M : Nat) {o u : Nat} (h : 50 ≤ o) : bufRead (wsprPack N M) o u = 0 := by
  rw [wsprPack, bufRead_bufWrite_disjoint _ _ _ _ _ _ (by omega) (.inr h),
    bufRead_bufWrite_disjoint _ _ _ _ _ _ (by omega) (.inr (by omega)), bufRead_replicate_zero]

/-- Settles O32: three bytes of `N`, one that ends `N` and begins `M`, two of `M`, one that ends `M`, and four of padding. -/
theorem wsprPackedBuffer : Obligations.WsprPackedBuffer := by
  intro N M hN hM
  have hcallGrid : bufRead (wsprPack N M) 24 8 = N % 16 * 16 + M / 2 ^ 18 % 16 := by
    rw [bufRead_add _ 24 4 4, bufRead_wsprPack_call _ _ (by decide), bufRead_wsprPack_gridPower _ _ (by decide) (by decide)]
    simp
  have hgridPadding : bufRead (wsprPack N M) 48 8 = M % 4 * 64 := by
    rw [bufRead_add _ 48 2 6, bufRead_wsprPack_gridPower _ _ (by decide) (by decide), bufRead_wsprPack_padding _ _ (by decide)]
    simp
  have hcallHigh : N / 1048576 < 256 := by omega
  have hgridHigh : M / 262144 < 16 := by omega
  rw [toList_map_toNat]
  simp [List.range_succ, bufRead_wsprPack_call, bufRead_wsprPack_gridPower, bufRead_wsprPack_padding, hcallGrid, hgridPadding,
    hcallHigh, hgridHigh]

/-! ## XOR of a list of bits (R13, R207) -/

theorem xorAll_append_singleton (bs : List Bool) (b : Bool) : xorAll (bs ++ [b]) = (xorAll bs ^^ b) := by
  simp [xorAll]

theorem xorAll_map_range_succ (n : Nat) (f : Nat → Bool) : xorAll ((List.range (n + 1)).map f) = (xorAll ((List.range n).map f) ^^ f n) := by
  rw [List.range_succ, List.map_append, List.map_singleton, xorAll_append_singleton]

theorem xorAll_map_xor (n : Nat) (f g : Nat → Bool) :
    xorAll ((List.range n).map fun i => f i ^^ g i) = (xorAll ((List.range n).map f) ^^ xorAll ((List.range n).map g)) := by
  induction n with
  | zero => rfl
  | succ n ih =>
    simp only [xorAll_map_range_succ, ih, Bool.xor_assoc, Bool.xor_left_comm (f n)]

/-- Where one bit at most is set, the XOR is that bit. -/
theorem xorAll_map_single (n d : Nat) (b : Bool) : xorAll ((List.range n).map fun i => decide (i = d) && b) = (decide (d < n) && b) := by
  induction n with
  | zero => rfl
  | succ n ih =>
    rw [xorAll_map_range_succ, ih]
    obtain hlt | rfl | hgt := Nat.lt_trichotomy d n
    · simp [hlt, hlt.ne', Nat.lt_succ_of_lt hlt]
    · simp
    · simp [hgt.ne, Nat.not_lt.mpr hgt.le, Nat.not_lt.mpr (Nat.succ_le_of_lt hgt)]

theorem parity32_eq_xorAll (v : BitVec 32) : parity32 v = xorAll ((List.range 32).map fun i => v.getLsbD i) := by
  rw [parity32, xorAll, List.foldl_map]

theorem parity32_xor_and (v w G : BitVec 32) : parity32 ((v ^^^ w) &&& G) = (parity32 (v &&& G) ^^ parity32 (w &&& G)) := by
  simp only [parity32_eq_xorAll, BitVec.getLsbD_and, BitVec.getLsbD_xor, Bool.and_xor_distrib_right, xorAll_map_xor]

/-! ## The coder (R205, R207) -/

theorem getLsbD_wsprShiftIn (creg : BitVec 32) (u : Bool) {i : Nat} (hi : i < 32) :
    (wsprShiftIn creg u).getLsbD i = if i = 0 then u else creg.getLsbD (i - 1) := by
  cases i with
  | zero => cases u <;> simp [wsprShiftIn]
  | succ i =>
    have hbit : (if u then (1 : BitVec 32) else 0).getLsbD (i + 1) = false := by cases u <;> simp
    rw [wsprShiftIn, BitVec.getLsbD_or, hbit, BitVec.getLsbD_shiftLeft]
    simp [hi]

theorem wsprShiftIn_xor (c d : BitVec 32) (u v : Bool) : wsprShiftIn (c ^^^ d) (u ^^ v) = wsprShiftIn c u ^^^ wsprShiftIn d v := by
  apply BitVec.eq_of_getLsbD_eq
  intro i hi
  rw [BitVec.getLsbD_xor, getLsbD_wsprShiftIn _ _ hi, getLsbD_wsprShiftIn _ _ hi, getLsbD_wsprShiftIn _ _ hi]
  split
  · rfl
  · exact BitVec.getLsbD_xor

/-- Linearity of the coder, register and input together. -/
theorem wsprCoder_xor (c d : BitVec 32) (us vs : List Bool) :
    wsprCoder (c ^^^ d) (List.zipWith (fun a b => a ^^ b) us vs) =
      List.zipWith (fun a b => a ^^ b) (wsprCoder c us) (wsprCoder d vs) := by
  induction us generalizing c d vs with
  | nil => rfl
  | cons u us ih =>
    cases vs with
    | nil => rfl
    | cons v vs =>
      simp only [List.zipWith_cons_cons, wsprCoder, wsprShiftIn_xor, ih, parity32_xor_and]

@[simp] theorem length_wsprCoder (creg : BitVec 32) (us : List Bool) : (wsprCoder creg us).length = 2 * us.length := by
  induction us generalizing creg with
  | nil => rfl
  | cons u us ih => rw [wsprCoder, List.length_cons, List.length_cons, ih, List.length_cons, Nat.mul_succ]

/-- The register after `t` of the input bits. -/
def wsprRegister (creg : BitVec 32) (us : List Bool) (t : Nat) : BitVec 32 := (us.take t).foldl wsprShiftIn creg

/-- Output bits `2 * t` and `2 * t + 1` are taken from the register that has input bit `t`. -/
theorem getElem?_wsprCoder (creg : BitVec 32) (us : List Bool) {t : Nat} (ht : t < us.length) :
    (wsprCoder creg us)[2 * t]? = some (parity32 (wsprRegister creg us (t + 1) &&& wsprG1)) ∧
      (wsprCoder creg us)[2 * t + 1]? = some (parity32 (wsprRegister creg us (t + 1) &&& wsprG2)) := by
  induction us generalizing creg t with
  | nil => exact absurd ht (Nat.not_lt_zero t)
  | cons u us ih =>
    cases t with
    | zero => exact ⟨rfl, rfl⟩
    | succ t => exact ih _ (Nat.lt_of_succ_lt_succ ht)

/-- Bit `d` of the register is the input bit of `d` steps ago. -/
theorem getLsbD_wsprRegister (us : List Bool) {t d : Nat} (ht : t < us.length) (hd : d < 32) :
    (wsprRegister 0 us (t + 1)).getLsbD d = (decide (d ≤ t) && us.getD (t - d) false) := by
  have hstep : ∀ k, k < us.length → wsprRegister 0 us (k + 1) = wsprShiftIn (wsprRegister 0 us k) (us.getD k false) := by
    intro k hk
    rw [wsprRegister, List.take_add_one, List.foldl_append]
    simp [wsprRegister, hk]
  induction t generalizing d with
  | zero =>
    rw [hstep 0 ht, getLsbD_wsprShiftIn _ _ hd]
    split
    · next h => simp [h]
    · next h => simp [h, wsprRegister]
  | succ t ih =>
    rw [hstep _ ht, getLsbD_wsprShiftIn _ _ hd]
    split
    · next h => simp [h]
    · next h =>
      rw [ih (by omega) (by omega), show t - (d - 1) = t + 1 - d by omega]
      congr 1
      exact decide_eq_decide.mpr (by omega)

theorem parity32_wsprRegister (G : BitVec 32) (us : List Bool) {t : Nat} (ht : t < us.length) :
    parity32 (wsprRegister 0 us (t + 1) &&& G) = convTap G us t := by
  rw [parity32_eq_xorAll, convTap]
  congr 1
  refine List.map_congr_left fun d hd => ?_
  rw [BitVec.getLsbD_and, getLsbD_wsprRegister us ht (List.mem_range.mp hd), Bool.and_comm, Bool.and_assoc]

/-! ## The coder on the packed buffer (R206, R207) -/

@[simp] theorem length_wsprInputBits (pk : Buf 11) : (wsprInputBits pk).length = 81 := by simp [wsprInputBits]

theorem getD_wsprInputBits (pk : Buf 11) {k : Nat} (hk : k < 81) : (wsprInputBits pk).getD k false = bufBit pk k := by
  simp [wsprInputBits, hk]

theorem getElem?_wsprConv (pk : Buf 11) {t : Nat} (ht : t < 81) :
    (wsprConv pk)[2 * t]? = some (convTap wsprG1 (wsprInputBits pk) t) ∧
      (wsprConv pk)[2 * t + 1]? = some (convTap wsprG2 (wsprInputBits pk) t) := by
  have hlt : t < (wsprInputBits pk).length := by rwa [length_wsprInputBits]
  rw [← parity32_wsprRegister wsprG1 _ hlt, ← parity32_wsprRegister wsprG2 _ hlt]
  exact getElem?_wsprCoder 0 _ hlt

theorem length_wsprConv (pk : Buf 11) : (wsprConv pk).length = 162 := by
  rw [wsprConv, length_wsprCoder, length_wsprInputBits]

theorem bufBit_wsprPack (N M k : Nat) : bufBit (wsprPack N M) k =
    if k < 28 then N.testBit (27 - k) else if k < 50 then M.testBit (49 - k) else false := by
  rw [wsprPack, bufBit_bufWrite _ _ _ _ _ (by decide), bufBit_bufWrite _ _ _ _ _ (by decide), bufBit_replicate_zero]
  by_cases hcall : k < 28
  · rw [if_neg (by omega), if_pos (by omega), if_pos hcall]
  · by_cases hgrid : k < 50
    · rw [if_pos (by omega), if_neg hcall, if_pos hgrid]
    · rw [if_neg (by omega), if_neg (by omega), if_neg hcall, if_neg hgrid]

/-- The impulse of R207: bit 0 alone is set. -/
theorem bufBit_wsprPack_impulse (k : Nat) : bufBit (wsprPack (2 ^ 27) 0) k = decide (k = 0) := by
  rw [bufBit_wsprPack, Nat.testBit_two_pow, Nat.zero_testBit, ite_self]
  split
  · exact decide_eq_decide.mpr (by omega)
  · exact (decide_eq_false (by omega)).symm

theorem convTap_impulse (G : BitVec 32) {t : Nat} (ht : t < 81) :
    convTap G (wsprInputBits (wsprPack (2 ^ 27) 0)) t = G.getLsbD t := by
  have hterm : ∀ d, (G.getLsbD d && decide (d ≤ t) && (wsprInputBits (wsprPack (2 ^ 27) 0)).getD (t - d) false) =
      (decide (d = t) && G.getLsbD t) := by
    intro d
    rw [getD_wsprInputBits _ (by omega), bufBit_wsprPack_impulse]
    obtain hlt | rfl | hgt := Nat.lt_trichotomy d t
    · simp [hlt.ne, Nat.sub_ne_zero_of_lt hlt]
    · simp
    · simp [hgt.ne', Nat.not_le.mpr hgt]
  rw [convTap, List.map_congr_left fun d _ => hterm d, xorAll_map_single, Bool.and_eq_right_iff_imp]
  exact fun hbit => decide_eq_true (BitVec.lt_of_getLsbD hbit)

theorem bufBit_zipWith_xor {n : Nat} (A B : Buf n) (k : Nat) :
    bufBit (Vector.zipWith (fun a b => a ^^^ b) A B) k = (bufBit A k ^^ bufBit B k) := by
  by_cases hk : k / 8 < n
  · simp [bufBit, hk]
  · simp [bufBit, hk]

theorem wsprInputBits_xor (A B : Buf 11) : wsprInputBits (Vector.zipWith (fun a b => a ^^^ b) A B) =
    List.zipWith (fun a b => a ^^ b) (wsprInputBits A) (wsprInputBits B) := by
  simp only [wsprInputBits, List.zipWith_map, List.zipWith_self]
  exact List.map_congr_left fun k _ => bufBit_zipWith_xor A B k

/-- Settles O33: the register holds the last 32 input bits, an impulse runs through it, and each of its functions is linear. -/
theorem convolutionalCode : Obligations.ConvolutionalCode := by
  refine ⟨fun pk => ⟨length_wsprConv pk, fun t ht => getElem?_wsprConv pk ht⟩, fun d hd => ?impulse, fun N M k hk => ?tail,
    fun A B => ?linear⟩
  case impulse =>
    rw [← convTap_impulse 0xF2D05351 hd, ← convTap_impulse 0xE4613C47 hd]
    exact getElem?_wsprConv _ hd
  case tail => rw [bufBit_wsprPack, if_neg (by omega), if_neg (by omega)]
  case linear =>
    rw [wsprConv, wsprInputBits_xor]
    exact wsprCoder_xor 0 0 _ _

/-! ## The interleaver (R208, R209) -/

/-- The binary number of the bits `f 0` to `f (n - 1)`. -/
theorem sum_two_pow_bits (f : Nat → Bool) (n : Nat) : ((List.range n).map fun i => if f i then 2 ^ i else 0).sum < 2 ^ n ∧
    ∀ i, i < n → (((List.range n).map fun i => if f i then 2 ^ i else 0).sum).testBit i = f i := by
  induction n with
  | zero => exact ⟨Nat.two_pow_pos 0, fun i hi => absurd hi (Nat.not_lt_zero i)⟩
  | succ n ih =>
    obtain ⟨hlt, hbits⟩ := ih
    rw [List.range_succ, List.map_append, List.sum_append, List.map_singleton, List.sum_singleton]
    generalize ((List.range n).map fun i => if f i then 2 ^ i else 0).sum = low at hlt hbits
    have hsum : low + (if f n then 2 ^ n else 0) = 2 ^ n * (f n).toNat + low := by
      cases f n <;> simp [Nat.add_comm]
    rw [hsum]
    refine ⟨?_, fun i hi => ?_⟩
    · have hbit := Bool.toNat_le (f n)
      have hmul := Nat.mul_le_mul_left (2 ^ n) hbit
      rw [Nat.pow_succ]
      omega
    · rw [Nat.testBit_two_pow_mul_add _ hlt]
      obtain hi | rfl := Nat.lt_succ_iff_lt_or_eq.mp hi
      · rw [if_pos hi, hbits i hi]
      · cases f i <;> simp

theorem bitReverse8_lt (j : Nat) : bitReverse8 j < 256 := (sum_two_pow_bits (fun i => j.testBit (7 - i)) 8).1

theorem testBit_bitReverse8 (j : Nat) {i : Nat} (hi : i < 8) : (bitReverse8 j).testBit i = j.testBit (7 - i) :=
  (sum_two_pow_bits (fun i => j.testBit (7 - i)) 8).2 i hi

/-- The mirror is its own inverse. -/
theorem bitReverse8_bitReverse8 {j : Nat} (hj : j < 256) : bitReverse8 (bitReverse8 j) = j := by
  apply Nat.eq_of_testBit_eq
  intro i
  by_cases hi : i < 8
  · rw [testBit_bitReverse8 _ hi, testBit_bitReverse8 _ (by omega), show 7 - (7 - i) = i by omega]
  · have hle : 2 ^ 8 ≤ 2 ^ i := Nat.pow_le_pow_right (by decide) (Nat.not_lt.mp hi)
    rw [Nat.testBit_lt_two_pow ((bitReverse8_lt _).trans_le hle), Nat.testBit_lt_two_pow (hj.trans_le hle)]

theorem bitReverse8_inj {j k : Nat} (hj : j < 256) (hk : k < 256) (h : bitReverse8 j = bitReverse8 k) : j = k := by
  rw [← bitReverse8_bitReverse8 hj, h, bitReverse8_bitReverse8 hk]

/-- How many of the indices before `j` have their mirror below 162: the value of `p` at iteration `j` of R208. -/
def interleaveCount (j : Nat) : Nat := ((List.range j).filter fun j' => decide (bitReverse8 j' < 162)).length

theorem interleaveCount_succ (j : Nat) : interleaveCount (j + 1) = interleaveCount j + if bitReverse8 j < 162 then 1 else 0 := by
  rw [interleaveCount, List.range_succ, List.filter_append, List.length_append, interleaveCount]
  by_cases h : bitReverse8 j < 162 <;> simp [h]

theorem interleaveCount_mono {j k : Nat} (h : j ≤ k) : interleaveCount j ≤ interleaveCount k :=
  ((List.range_sublist.mpr h).filter _).length_le

/-- The mirror pairs the indices that qualify with the positions below 162. -/
theorem interleaveCount_all : interleaveCount 256 = 162 := by
  have hcard : interleaveCount 256 = ((Finset.range 256).filter fun j => bitReverse8 j < 162).card := rfl
  rw [hcard, ← Finset.card_range 162]
  refine Finset.card_nbij' bitReverse8 bitReverse8 (fun j hj => ?_) (fun k hk => ?_) (fun j hj => ?_) fun k hk => ?_
  · exact Finset.mem_range.mpr (Finset.mem_filter.mp hj).2
  · have hlt : k < 256 := (Finset.mem_range.mp hk).trans (by decide)
    refine Finset.mem_filter.mpr ⟨Finset.mem_range.mpr (bitReverse8_lt k), ?_⟩
    rw [bitReverse8_bitReverse8 hlt]
    exact Finset.mem_range.mp hk
  · exact bitReverse8_bitReverse8 (Finset.mem_range.mp (Finset.mem_filter.mp hj).1)
  · exact bitReverse8_bitReverse8 ((Finset.mem_range.mp hk).trans (by decide))

theorem interleaveCount_lt {j : Nat} (hj : j < 256) (hrev : bitReverse8 j < 162) : interleaveCount j < 162 := by
  have hnext := interleaveCount_mono (Nat.succ_le_of_lt hj)
  rw [interleaveCount_all, interleaveCount_succ, if_pos hrev] at hnext
  exact hnext

/-- After the iterations before `n`, the count stands at the next bit, and each index seen has its bit. -/
structure InterleaveInv (conv : List Bool) (n : Nat) (w : InterleaveWork) : Prop where
  next : w.p = interleaveCount n
  written : ∀ j, j < n → bitReverse8 j < 162 → w.ilv[bitReverse8 j]? = some (conv.getD (interleaveCount j) false)

theorem interleaveStep_keeps_inv {conv : List Bool} {n : Nat} {w : InterleaveWork} (hn : n < 256) (hw : InterleaveInv conv n w) :
    InterleaveInv conv (n + 1) (interleaveStep conv w n) := by
  unfold interleaveStep
  split
  · next hrev =>
    refine ⟨by rw [interleaveCount_succ, if_pos hrev, hw.next], fun j hj hrevj => ?_⟩
    obtain hj | rfl := Nat.lt_succ_iff_lt_or_eq.mp hj
    · have hne : bitReverse8 n ≠ bitReverse8 j := fun h => hj.ne' (bitReverse8_inj hn (hj.trans hn) h)
      rw [Vector.getElem?_setIfInBounds_ne hne]
      exact hw.written j hj hrevj
    · rw [Vector.getElem?_setIfInBounds_self, if_pos hrevj, hw.next]
  · next hrev =>
    refine ⟨by rw [interleaveCount_succ, if_neg hrev, hw.next, Nat.add_zero], fun j hj hrevj => ?_⟩
    obtain hj | rfl := Nat.lt_succ_iff_lt_or_eq.mp hj
    · exact hw.written j hj hrevj
    · exact absurd hrevj hrev

theorem interleaveInv_foldl (conv : List Bool) {n : Nat} (hn : n ≤ 256) :
    InterleaveInv conv n ((List.range n).foldl (interleaveStep conv) { p := 0, ilv := Vector.replicate 162 false }) := by
  induction n with
  | zero => exact ⟨rfl, fun j hj => absurd hj (Nat.not_lt_zero j)⟩
  | succ n ih =>
    rw [List.range_succ, List.foldl_append]
    exact interleaveStep_keeps_inv (Nat.lt_of_succ_le hn) (ih (Nat.le_of_succ_le hn))

/-- Settles O34: the loop's invariant after its 256 iterations, where the count has reached 162. -/
theorem interleaverPermutes : Obligations.InterleaverPermutes := by
  refine ⟨fun j _ => ⟨bitReverse8_lt j, fun i => testBit_bitReverse8 j⟩, interleaveCount_all, fun conv j hconv hj hrev => ?_⟩
  have hcount : interleaveCount j < conv.length := hconv ▸ interleaveCount_lt hj hrev
  have hwritten := (interleaveInv_foldl conv le_rfl).written j hj hrev
  rw [List.getD_eq_getElem _ _ hcount, ← List.getElem?_eq_getElem hcount] at hwritten
  exact hwritten

end Sys2Proof.Machine

/-! # The FTx field family: the values of the fourteen field encoders (R230 to R271) -/

namespace Sys2Proof.Machine

-- As in Tests/Slice0.lean: each thread of asynchronous elaboration reserves memory, of which the text before leaves little.
set_option Elab.async false

/-! ## The operation of a record in its domain (R231, R242 to R270) -/

theorem exec_feC28 {s : State} {o : FeC28Opr} (hopr : s.opr = .record (.feC28 o)) (hok : callCellOk o.cell = true) :
    exec .feC28 s = .next (completeField (BitVec.ofNat 64 (c28 s.cfg o.cell)) s) := by
  simp [exec, execFeC28, hopr, hok]

theorem exec_feG15 {s : State} {o : FeG15Opr} (hopr : s.opr = .record (.feG15 o)) (hok : g15CellOk o.cell = true) :
    exec .feG15 s = .next (completeField (BitVec.ofNat 64 (g15 o.cell)) s) := by
  simp [exec, execFeG15, hopr, hok]

theorem exec_feG25 {s : State} {o : FeG25Opr} (hopr : s.opr = .record (.feG25 o)) :
    exec .feG25 s = .next (completeField (BitVec.ofNat 64 (g25 o.grid6.val)) s) := by
  simp [exec, execFeG25, hopr]

theorem exec_feC58 {s : State} {o : FeC58Opr} {n : Nat} (hopr : s.opr = .record (.feC58 o)) (hok : call11Ok o.call = true)
    (hn : c58 o.call = some n) : exec .feC58 s = .next (completeField (BitVec.ofNat 64 n) s) := by
  simp [exec, execFeC58, hopr, hok, hn]

theorem exec_feF71 {s : State} {o : FeF71Opr} {B : Buf 9} (hopr : s.opr = .record (.feF71 o)) (hok : text13Ok o.text = true)
    (hB : f71 s.cfg.f71Radix o.text = some B) : exec .feF71 s = .next (completeB71 B s) := by
  simp [exec, execFeF71, hopr, hok, hB]

theorem exec_feT71 {s : State} {o : FeT71Opr} {B : Buf 9} (hopr : s.opr = .record (.feT71 o)) (hok : hex18Ok o.hex = true)
    (hB : t71 o.hex = some B) : exec .feT71 s = .next (completeB71 B s) := by
  simp [exec, execFeT71, hopr, hok, hB]

theorem exec_feHash {s : State} {o : FeHashOpr} {h : Nat} (hopr : s.opr = .record (.feHash o)) (hwidth : hashWidthOk o.width.toNat = true)
    (hok : call11Ok o.call = true) (hh : callHash o.call o.width.toNat = some h) :
    exec .feHash s = .next (completeField (BitVec.ofNat 64 h) s) := by
  simp [exec, execFeHash, hopr, hwidth, hok, hh]

theorem exec_feS7 {s : State} {o : FeS7Opr} (hopr : s.opr = .record (.feS7 o)) :
    exec .feS7 s = .next (completeField (BitVec.ofInt 64 (s7 s.cfg o.sec.val)) s) := by
  simp [exec, execFeS7, hopr]

theorem exec_feState {s : State} {o : FeStateOpr} (hopr : s.opr = .record (.feState o)) :
    exec .feState s = .next (completeField (BitVec.ofNat 64 (stateVal s.cfg o.state.val)) s) := by
  simp [exec, execFeState, hopr]

theorem exec_feR2 {s : State} {o : FeR2Opr} {w : R2Word} (hopr : s.opr = .record (.feR2 o)) (hword : o.word = w)
    (hok : r2WordOk w = true) : exec .feR2 s = .next (completeField (BitVec.ofNat 64 (r2 w)) s) := by
  simp [exec, execFeR2, hopr, hword, hok]

theorem exec_feR3 {s : State} {o : FeR3Opr} (hopr : s.opr = .record (.feR3 o)) :
    exec .feR3 s = .next (completeField (BitVec.ofNat 64 (r3 o.rst.toNat)) s) := by
  simp [exec, execFeR3, hopr]

theorem exec_feR5 {s : State} {o : FeR5Opr} (hopr : s.opr = .record (.feR5 o)) :
    exec .feR5 s = .next (completeField (BitVec.ofNat 64 (r5 o.report.toInt)) s) := by
  simp [exec, execFeR5, hopr]

theorem exec_feK3 {s : State} {o : FeK3Opr} (hopr : s.opr = .record (.feK3 o)) :
    exec .feK3 s = .next (completeField (BitVec.ofNat 64 (k3 o.cls)) s) := by
  simp [exec, execFeK3, hopr]

theorem exec_feS11 {s : State} {o : FeS11Opr} (hopr : s.opr = .record (.feS11 o)) :
    exec .feS11 s = .next (completeField (BitVec.ofNat 64 (s11 o.serial.toNat)) s) := by
  simp [exec, execFeS11, hopr]

/-! ## The small encoders (R266 to R270) -/

theorem exec_feR2_other {s : State} {o : FeR2Opr} {k : Nat} (hopr : s.opr = .record (.feR2 o)) (hword : o.word = .other k) :
    exec .feR2 s = .next (failField s) :=
  exec_of_invalid_record hopr (r2WordOk_eq_false_iff.mpr ⟨k, hword⟩)

theorem r3_of_report {rst : Nat} (hlo : 2 ≤ rst) (hhi : rst ≤ 9) : r3 rst + 2 = rst := by
  rw [r3, if_pos ⟨hlo, hhi⟩, Nat.sub_add_cancel hlo]

theorem r3_of_other {rst : Nat} (h : rst < 2 ∨ 9 < rst) : r3 rst = 0 := if_neg (by omega)

/-- The clamp of R268 keeps the dividend between 0 and 62. -/
theorem r5_eq (report : Int) : r5 report ≤ 31 ∧ (r5 report : Int) = (max (-30) (min 32 report) + 30) / 2 := by
  rw [r5]
  omega

theorem k3_of_class {c : Byte} (hlo : 0x41 ≤ c.toNat) (hhi : c.toNat ≤ 0x46) : k3 c + 0x41 = c.toNat := by
  rw [k3, if_pos (upperUpTo_iff.mpr ⟨hlo, hhi⟩), letterVal, Nat.sub_add_cancel hlo]

theorem k3_of_other {c : Byte} (h : c.toNat < 0x41 ∨ 0x46 < c.toNat) : k3 c = 0 := if_neg (by rw [upperUpTo_iff]; omega)

/-- Settles O49: each of the five by the value of its field function; the unknown word of r2 fails its check. -/
theorem smallEncoderResults : Obligations.SmallEncoderResults := by
  refine ⟨fun s o hopr => ?r2, fun s o hopr => ⟨_, exec_feR3 hopr, r3_of_report, r3_of_other⟩,
    fun s o hopr => ⟨_, exec_feR5 hopr, r5_eq _⟩, fun s o hopr => ⟨_, exec_feK3 hopr, k3_of_class, k3_of_other⟩,
    fun s o hopr => exec_feS11 hopr⟩
  split
  case h_1 hword => exact exec_feR2 hopr hword rfl
  case h_2 hword => exact exec_feR2 hopr hword rfl
  case h_3 hword => exact exec_feR2 hopr hword rfl
  case h_4 hword => exact exec_feR2 hopr hword rfl
  case h_5 hword => exact exec_feR2_other hopr hword

/-! ## The lookups (R261, R264) -/

theorem tableIndex_of_nodup {table : List Text} {t : Text} {k : Nat} (hdistinct : table.Nodup) (hk : table[k]? = some (upperText t)) :
    tableIndex table t = some k := by
  obtain ⟨hlt, hentry⟩ := List.getElem?_eq_some_iff.mp hk
  refine List.idxOf?_eq_some_iff.mpr ⟨hlt, hentry, fun j hj hsame => hj.ne ?_⟩
  exact (hdistinct.getElem_inj_iff (hi := hj.trans hlt) (hj := hlt)).mp (hsame.trans hentry.symm)

theorem tableIndex_eq_none_iff {table : List Text} {t : Text} : tableIndex table t = none ↔ upperText t ∉ table :=
  List.idxOf?_eq_none_iff

theorem s7_of_tableIndex {cfg : Config} {t : Text} {k : Nat} (h : tableIndex cfg.arrlSections.toList t = some k) : s7 cfg t = k := by
  simp only [s7, h]

theorem stateVal_of_tableIndex {cfg : Config} {t : Text} {k : Nat} (h : tableIndex cfg.rttyStates.toList t = some k) :
    stateVal cfg t = cfg.s13StateOffset + k := by
  simp only [stateVal, h]

theorem stateVal_of_not_mem {cfg : Config} {t : Text} (h : upperText t ∉ cfg.rttyStates.toList) : stateVal cfg t = 0 := by
  simp only [stateVal, tableIndex_eq_none_iff.mpr h]

/-- Settles O48: in a table of distinct entries the first match is the only one. -/
theorem lookupResults : Obligations.LookupResults := by
  refine ⟨fun s o hopr => ⟨_, exec_feS7 hopr, fun k hdistinct hk => ?index, s7_eq_neg_one_iff.mpr⟩,
    fun s o hopr => ⟨_, exec_feState hopr, fun k hdistinct hk => ?state, stateVal_of_not_mem⟩⟩
  case index => exact s7_of_tableIndex (tableIndex_of_nodup hdistinct (Vector.getElem?_toList.trans hk))
  case state => exact stateVal_of_tableIndex (tableIndex_of_nodup hdistinct (Vector.getElem?_toList.trans hk))

/-! ## The grids (R243 to R246) -/

theorem g15Grid_of_valid {c0 c1 c2 c3 : Byte} (h : wsprGridOk [c0, c1, c2, c3] = true) : g15Grid [c0, c1, c2, c3] =
    (c0.toNat - 0x41) * 1800 + (c1.toNat - 0x41) * 100 + (c2.toNat - 0x30) * 10 + (c3.toNat - 0x30) := if_pos h

/-- The grids g15 takes are those of R192. -/
theorem g15Grid_of_invalid {g : Text} (h : ¬wsprGridOk g = true) : g15Grid g = 0 := by
  unfold g15Grid
  split
  · exact if_neg h
  · rfl

theorem g15Grid_le (g : Text) : g15Grid g ≤ 32399 := by
  by_cases h : wsprGridOk g = true
  · obtain ⟨c0, c1, c2, c3, rfl, hcells⟩ := wsprGridOk_iff.mp h
    rw [g15Grid_of_valid h]
    omega
  · rw [g15Grid_of_invalid h]
    omega

theorem g15_grid (g : Str255) : g15 (.grid g) = g15Grid g.val :=
  Nat.mod_eq_of_lt ((g15Grid_le g.val).trans_lt (by decide))

theorem g15_report (r : BitVec 16) : (g15 (.report r) : Int) = (32400 + r.toInt + 35) % 2 ^ 15 :=
  Int.toNat_of_nonneg (Int.emod_nonneg _ (by decide))

theorem g15_lt (cell : G15Cell) : g15 cell < 2 ^ 15 := by
  cases cell with
  | grid g => exact Nat.mod_lt _ (by decide)
  | report r =>
    have hvalue := g15_report r
    omega
  | blank | rrr | rr73 | s73 => decide
  | other k => exact Nat.two_pow_pos 15

theorem g15CellOk_of_known {c : G15Cell} (h : ∀ k, c ≠ .other k) : g15CellOk c = true :=
  Bool.of_not_eq_false fun hbad => (g15CellOk_eq_false_iff.mp hbad).elim h

/-- Settles O42, form by form. -/
theorem feG15Result : Obligations.FeG15Result := by
  intro s o hopr
  dsimp only
  refine ⟨fun k hcell => exec_of_invalid_record hopr (g15CellOk_eq_false_iff.mpr ⟨k, hcell⟩), fun hknown =>
    ⟨_, exec_feG15 hopr (g15CellOk_of_known hknown), g15_lt _, ?grid, ?invalid, fun r hcell => hcell ▸ g15_report r,
      fun hcell => hcell ▸ rfl, fun hcell => hcell ▸ rfl, fun hcell => hcell ▸ rfl, fun hcell => hcell ▸ rfl⟩⟩
  case grid =>
    rintro g c0 c1 c2 c3 hcell ⟨hg, hcells⟩
    rw [hcell, g15_grid, hg, g15Grid_of_valid (wsprGridOk_cells.mpr hcells)]
  case invalid =>
    intro g hcell hbad
    rw [hcell, g15_grid]
    refine g15Grid_of_invalid fun hok => ?_
    obtain ⟨c0, c1, c2, c3, hvalid⟩ := wsprGridOk_iff.mp hok
    exact hbad c0 c1 c2 c3 hvalid

/-- A six-character grid of R246: two letters `A` to `R`, two digits, two letters `A` to `X`. -/
def Grid6 (g : Text) (a b c d e f : Byte) : Prop :=
  g = [a, b, c, d, e, f] ∧ 0x41 ≤ a.toNat ∧ a.toNat ≤ 0x52 ∧ 0x41 ≤ b.toNat ∧ b.toNat ≤ 0x52 ∧ 0x30 ≤ c.toNat ∧ c.toNat ≤ 0x39 ∧
    0x30 ≤ d.toNat ∧ d.toNat ≤ 0x39 ∧ 0x41 ≤ e.toNat ∧ e.toNat ≤ 0x58 ∧ 0x41 ≤ f.toNat ∧ f.toNat ≤ 0x58

theorem g25_of_grid6 {g : Text} {a b c d e f : Byte} (h : Grid6 g a b c d e f) : g25 g =
    (((((a.toNat - 0x41) * 18 + (b.toNat - 0x41)) * 10 + (c.toNat - 0x30)) * 10 + (d.toNat - 0x30)) * 24 + (e.toNat - 0x41)) * 24 +
      (f.toNat - 0x41) := by
  obtain ⟨rfl, hcells⟩ := h
  simp [g25, upperUpTo, isDigit, hcells, mixed, letterVal, digitVal]

theorem g25_of_no_grid6 {g : Text} (h : ∀ a b c d e f, ¬Grid6 g a b c d e f) : g25 g = 0 := by
  unfold g25
  split
  next a b c d e f =>
    refine if_neg fun hok => h a b c d e f ⟨rfl, ?_⟩
    simpa only [Bool.and_eq_true, upperUpTo_iff, isDigit_iff, and_assoc] using hok
  next => rfl

theorem g25_le (g : Text) : g25 g ≤ 18662399 := by
  by_cases h : ∃ a b c d e f, Grid6 g a b c d e f
  · obtain ⟨a, b, c, d, e, f, hgrid⟩ := h
    rw [g25_of_grid6 hgrid]
    obtain ⟨_, hcells⟩ := hgrid
    omega
  · push Not at h
    rw [g25_of_no_grid6 h]
    omega

/-- Settles O43. -/
theorem feG25Result : Obligations.FeG25Result := fun _ _ hopr =>
  ⟨_, exec_feG25 hopr, g25_le _, fun _ _ _ _ _ _ => g25_of_grid6, g25_of_no_grid6⟩

/-! ## Cells and their mixed-radix values (R232, R233) -/

theorem cellsWith_eq_map {f : Byte → Option Nat} {g : Byte → Nat} {t : Text} (h : ∀ c ∈ t, f c = some (g c)) :
    cellsWith f t = some (t.map g) := by
  induction t with
  | nil => rfl
  | cons c t ih =>
    obtain ⟨hc, ht⟩ := List.forall_mem_cons.mp h
    rw [cellsWith, hc, ih ht, List.map_cons]

theorem allIn_iff {A t : Text} : allIn A t = true ↔ ∀ c ∈ t, c ∈ A := by
  simp only [allIn, List.all_eq_true, List.contains_iff_mem]

theorem idx_of_mem {A : Text} {c : Byte} (h : c ∈ A) : idx A c = some (cellOrZero A c) := by
  obtain ⟨k, hk⟩ := Option.isSome_iff_exists.mp (List.isSome_idxOf?.mpr h)
  rw [cellOrZero, idx, hk, Option.getD_some]

theorem cellOrZero_lt {A : Text} (hA : 0 < A.length) (c : Byte) : cellOrZero A c < A.length := by
  unfold cellOrZero idx
  cases hk : A.idxOf? c with
  | none => exact hA
  | some k => exact (List.idxOf?_eq_some_iff.mp hk).1

/-- A cell value gives its character back. -/
theorem cellOrZero_inj {A : Text} {c d : Byte} (hc : c ∈ A) (hd : d ∈ A) (h : cellOrZero A c = cellOrZero A d) : c = d := by
  obtain ⟨_, hcAt, _⟩ := List.idxOf?_eq_some_iff.mp (idx_of_mem hc)
  obtain ⟨_, hdAt, _⟩ := List.idxOf?_eq_some_iff.mp (idx_of_mem hd)
  rw [← hcAt, ← hdAt]
  simp only [h]

theorem cellsWith_idx {A t : Text} (h : allIn A t = true) : cellsWith (idx A) t = some (t.map (cellOrZero A)) :=
  cellsWith_eq_map fun c hc => idx_of_mem (allIn_iff.mp h c hc)

theorem mixedUniform_map (r : Nat) (f : Byte → Nat) (t : Text) : mixedUniform r (t.map f) = t.foldl (fun n c => n * r + f c) 0 :=
  List.foldl_map

/-- Cells below the radix, added after the number `m`. -/
theorem foldl_radix_lt {r : Nat} {cells : List Nat} (h : ∀ v ∈ cells, v < r) (m : Nat) :
    cells.foldl (fun n v => n * r + v) m < (m + 1) * r ^ cells.length := by
  induction cells generalizing m with
  | nil => simp
  | cons v cells ih =>
    obtain ⟨hv, hcells⟩ := List.forall_mem_cons.mp h
    calc cells.foldl (fun n v => n * r + v) (m * r + v) < (m * r + v + 1) * r ^ cells.length := ih hcells _
      _ ≤ ((m + 1) * r) * r ^ cells.length := Nat.mul_le_mul_right _ (by rw [Nat.add_mul]; omega)
      _ = (m + 1) * r ^ (cells.length + 1) := by ring

theorem mixedUniform_lt {r : Nat} {cells : List Nat} (h : ∀ v ∈ cells, v < r) : mixedUniform r cells < r ^ cells.length := by
  simpa [mixedUniform] using foldl_radix_lt h 0

theorem mixedUniform_cells_lt {A : Text} {r : Nat} (hA : 0 < A.length) (hr : A.length ≤ r) (t : Text) :
    mixedUniform r (t.map (cellOrZero A)) < r ^ t.length := by
  have hlt := mixedUniform_lt (r := r) (cells := t.map (cellOrZero A)) fun v hv => by
    obtain ⟨c, _, rfl⟩ := List.mem_map.mp hv
    exact (cellOrZero_lt hA c).trans_le hr
  rwa [List.length_map] at hlt

theorem length_padRight {n : Nat} {t : Text} (h : t.length ≤ n) : (padRight n t).length = n := by
  rw [padRight, List.length_append, List.length_replicate]
  omega

theorem length_padLeft {n : Nat} {t : Text} (h : t.length ≤ n) : (padLeft n t).length = n := by
  rw [padLeft, List.length_append, List.length_replicate]
  omega

theorem length_upperText (t : Text) : (upperText t).length = t.length := List.length_map _

theorem call11Ok_of_length {t : Text} (h : t.length ≤ 11) : call11Ok t = true := lenIn_iff.mpr ⟨Nat.zero_le _, h⟩

/-! ## c58 and the hash (R248, R257, R258) -/

theorem allIn_padRight {A t : Text} (n : Nat) (hsp : space ∈ A) (h : allIn A t = true) : allIn A (padRight n t) = true := by
  refine allIn_iff.mpr fun c hc => ?_
  obtain hc | hc := List.mem_append.mp hc
  · exact allIn_iff.mp h c hc
  · rwa [List.eq_of_mem_replicate hc]

theorem c58_of_allIn {call : Text} (h : allIn a38 (upperText call) = true) :
    c58 call = some ((padRight 11 (upperText call)).foldl (fun m c => m * 38 + cellOrZero a38 c) 0) := by
  rw [c58, cellsWith_idx (allIn_padRight 11 (by decide) h), ← mixedUniform_map]

theorem c58_value_lt {call : Text} (h : call.length ≤ 11) :
    (padRight 11 (upperText call)).foldl (fun m c => m * 38 + cellOrZero a38 c) 0 < 38 ^ 11 := by
  have hlt := mixedUniform_cells_lt (A := a38) (r := 38) (by decide) (by decide) (padRight 11 (upperText call))
  rwa [length_padRight ((length_upperText call).trans_le h), mixedUniform_map] at hlt

/-- Settles O44: each of the eleven cells has its value in base 38. -/
theorem feC58Result : Obligations.FeC58Result := by
  intro s o hopr
  dsimp only
  exact fun hlen hin => ⟨exec_feC58 hopr (call11Ok_of_length hlen) (c58_of_allIn hin), c58_value_lt hlen⟩

theorem callHash_of_c58 {call : Text} {n : Nat} (m : Nat) (h : c58 call = some n) :
    callHash call m = some (n * 47055833459 % 2 ^ 64 / 2 ^ (64 - m)) := by
  simp only [callHash, h, Nat.shiftRight_eq_div_pow]

theorem callHash_eq_some {call : Text} {m h : Nat} (hh : callHash call m = some h) :
    ∃ n, c58 call = some n ∧ n * 47055833459 % 2 ^ 64 / 2 ^ (64 - m) = h := by
  cases hn : c58 call with
  | none => simp [callHash, hn] at hh
  | some n => exact ⟨n, rfl, Option.some.inj ((callHash_of_c58 m hn).symm.trans hh)⟩

theorem hashWidthOk_of_width {m : Nat} (h : m = 10 ∨ m = 12 ∨ m = 22) : hashWidthOk m = true := by
  obtain rfl | rfl | rfl := h <;> rfl

/-- Settles O47: every width takes the top bits of the same 64-bit product. -/
theorem feHashResult : Obligations.FeHashResult := by
  refine ⟨fun s o hopr => ?value, fun call h hcall => ?narrow⟩
  case value =>
    dsimp only
    intro hwidth hlen hin
    exact exec_feHash hopr (hashWidthOk_of_width hwidth) (call11Ok_of_length hlen) (callHash_of_c58 _ (c58_of_allIn hin))
  case narrow =>
    obtain ⟨n, hn, rfl⟩ := callHash_eq_some hcall
    rw [callHash_of_c58 12 hn, callHash_of_c58 10 hn, Nat.div_div_eq_div_mul, Nat.div_div_eq_div_mul, ← Nat.pow_add, ← Nat.pow_add]
    have hproduct : n * 47055833459 % 2 ^ 64 < 2 ^ 64 := Nat.mod_lt _ (by decide)
    exact ⟨Nat.div_lt_of_lt_mul (by rwa [← Nat.pow_add]), rfl, rfl⟩

/-! ## B71 as one big-endian integer (R61, R251) -/

theorem beValue_toList {n : Nat} (B : Buf n) : beValue B.toList = bufRead B 0 (8 * n) := by
  have hbytes : ∀ k, ((List.range k).map fun i => bufRead B (8 * i) 8).foldl (fun m b => m * 256 + b) 0 = bufRead B 0 (8 * k) := by
    intro k
    induction k with
    | zero => rfl
    | succ k ih => rw [List.range_succ, List.map_append, List.foldl_append, ih, Nat.mul_succ, bufRead_add, Nat.zero_add]; rfl
  rw [← hbytes n, ← toList_map_toNat, List.foldl_map, beValue]

theorem bufBit_zero_of_beValue_lt {B : Buf 9} (h : beValue B.toList < 2 ^ 71) : bufBit B 0 = false := by
  rw [bufBit_eq_testBit_beValue B 0 (by decide)]
  exact Nat.testBit_lt_two_pow h

@[simp] theorem beValue_zeroB71 : beValue zeroB71.toList = 0 := by
  rw [beValue_toList, zeroB71, bufRead_replicate_zero]

/-! ## The multiply-and-add of f71 (R251) -/

/-- The byte `k` is the only one a step of the loop writes. -/
theorem getElem?_mulAddStep_ne {r k i : Nat} (w : Buf 9 × Nat) (h : k ≠ i) : (mulAddStep r w k).1[i]? = w.1[i]? :=
  Vector.getElem?_setIfInBounds_ne h

theorem getElem?_mulAddStep_self {r k : Nat} (w : Buf 9 × Nat) (h : k < 9) :
    (mulAddStep r w k).1[k]? = some (BitVec.ofNat 8 ((w.1[k]?.getD 0).toNat * r + w.2)) := by
  rw [mulAddStep, Vector.getElem?_setIfInBounds_self, if_pos h]

/-- The first `n` bytes as a number. -/
def leadingValue (B : Buf 9) (n : Nat) : Nat := beValue (B.toList.take n)

theorem leadingValue_succ {B : Buf 9} {n : Nat} {b : Byte} (h : B[n]? = some b) :
    leadingValue B (n + 1) = leadingValue B n * 256 + b.toNat := by
  rw [leadingValue, List.take_add_one, Vector.getElem?_toList, h, Option.toList_some, beValue_append, leadingValue]

theorem leadingValue_congr {A B : Buf 9} {n : Nat} (h : ∀ i, i < n → A[i]? = B[i]?) : leadingValue A n = leadingValue B n := by
  rw [leadingValue, leadingValue]
  congr 1
  refine List.ext_getElem? fun i => ?_
  rw [List.getElem?_take, List.getElem?_take]
  split
  next hi => rw [Vector.getElem?_toList, Vector.getElem?_toList, h i hi]
  next => rfl

/-- The loop of R251 over the first `n` bytes, from the last of them to the first. -/
def mulAddLoop (r n : Nat) (w : Buf 9 × Nat) : Buf 9 × Nat := (List.range n).reverse.foldl (mulAddStep r) w

theorem mulAdd_eq_loop (r : Nat) (B : Buf 9) (v : Nat) : mulAdd r B v = (mulAddLoop r 9 (B, v)).1 := rfl

theorem mulAddLoop_succ (r n : Nat) (w : Buf 9 × Nat) : mulAddLoop r (n + 1) w = mulAddLoop r n (mulAddStep r w n) := by
  rw [mulAddLoop, List.range_succ, List.reverse_append, List.reverse_singleton, List.singleton_append, List.foldl_cons, mulAddLoop]

theorem getElem?_mulAddLoop_of_le {r n i : Nat} (w : Buf 9 × Nat) (h : n ≤ i) : (mulAddLoop r n w).1[i]? = w.1[i]? := by
  induction n generalizing w with
  | zero => rfl
  | succ n ih => rw [mulAddLoop_succ, ih _ (Nat.le_of_succ_le h), getElem?_mulAddStep_ne _ (by omega)]

/-- The bytes done and the carry hold the product and the sum. -/
theorem mulAddLoop_value {r n : Nat} (hn : n ≤ 9) (w : Buf 9 × Nat) :
    leadingValue (mulAddLoop r n w).1 n + 256 ^ n * (mulAddLoop r n w).2 = leadingValue w.1 n * r + w.2 := by
  induction n generalizing w with
  | zero => simp [mulAddLoop, leadingValue, beValue]
  | succ n ih =>
    have hlt : n < 9 := hn
    have hbyte : w.1[n]? = some w.1[n] := by simp [hlt]
    have hlast : (mulAddLoop r n (mulAddStep r w n)).1[n]? = some (BitVec.ofNat 8 (w.1[n].toNat * r + w.2)) := by
      rw [getElem?_mulAddLoop_of_le _ le_rfl, getElem?_mulAddStep_self _ hlt, hbyte, Option.getD_some]
    have hrest := ih hlt.le (mulAddStep r w n)
    have hsame : leadingValue (mulAddStep r w n).1 n = leadingValue w.1 n :=
      leadingValue_congr fun i hi => getElem?_mulAddStep_ne w hi.ne'
    have hcarry : (mulAddStep r w n).2 = (w.1[n].toNat * r + w.2) / 256 := by rw [mulAddStep, hbyte, Option.getD_some]
    rw [hsame, hcarry] at hrest
    rw [mulAddLoop_succ, leadingValue_succ hlast, leadingValue_succ hbyte, BitVec.toNat_ofNat, show 2 ^ 8 = 256 from rfl]
    generalize mulAddLoop r n (mulAddStep r w n) = w' at hrest
    generalize hx : w.1[n].toNat * r + w.2 = x at hrest
    have hsplit := Nat.div_add_mod x 256
    calc leadingValue w'.1 n * 256 + x % 256 + 256 ^ (n + 1) * w'.2
        = (leadingValue w'.1 n + 256 ^ n * w'.2) * 256 + x % 256 := by ring
      _ = leadingValue w.1 n * r * 256 + (256 * (x / 256) + x % 256) := by rw [hrest]; ring
      _ = (leadingValue w.1 n * 256 + w.1[n].toNat) * r + w.2 := by rw [hsplit, ← hx]; ring

theorem leadingValue_all (B : Buf 9) : leadingValue B 9 = beValue B.toList := by
  rw [leadingValue, List.take_of_length_le (Vector.length_toList).le]

/-- What one multiply-and-add does: the last carry leaves the buffer (R251). -/
theorem beValue_mulAdd (r : Nat) (B : Buf 9) (v : Nat) : beValue (mulAdd r B v).toList = (beValue B.toList * r + v) % 256 ^ 9 := by
  have hvalue := mulAddLoop_value (r := r) le_rfl (B, v)
  rw [leadingValue_all, leadingValue_all, ← mulAdd_eq_loop] at hvalue
  have hfits : beValue (mulAdd r B v).toList < 256 ^ 9 := by
    rw [beValue_toList]
    exact bufRead_lt _ _ _
  rw [← hvalue, Nat.add_mul_mod_self_left, Nat.mod_eq_of_lt hfits]

theorem beValue_foldl_mulAdd (r : Nat) (cells : List Nat) :
    beValue (cells.foldl (mulAdd r) zeroB71).toList = mixedUniform r cells % 256 ^ 9 := by
  induction cells using List.reverseRecOn with
  | nil => exact beValue_zeroB71
  | append_singleton cells v ih =>
    rw [List.foldl_append, List.foldl_cons, List.foldl_nil, beValue_mulAdd, ih, mixedUniform, mixedUniform, List.foldl_append]
    exact ((Nat.mod_modEq _ _).mul_right r).add_right v

theorem f71_of_allIn {r : Nat} {text : Text} (h : allIn a43 text = true) :
    f71 r text = some ((text.map (cellOrZero a43)).foldl (mulAdd r) zeroB71) := by
  rw [f71, cellsWith_idx h]

/-- Settles O45: the integer is below `r ^ 13`, so no carry leaves the buffer. -/
theorem feF71Result : Obligations.FeF71Result := by
  intro s o hopr
  dsimp only
  intro hlen hin hradix hfits
  have hlt : mixedUniform s.cfg.f71Radix (o.text.map (cellOrZero a43)) < 2 ^ 71 :=
    calc _ < s.cfg.f71Radix ^ o.text.length := mixedUniform_cells_lt (by decide) (le_trans (by decide) hradix) _
      _ ≤ s.cfg.f71Radix ^ 13 := Nat.pow_le_pow_right (by omega) hlen
      _ < 2 ^ 71 := hfits
  have hvalue := beValue_foldl_mulAdd s.cfg.f71Radix (o.text.map (cellOrZero a43))
  rw [Nat.mod_eq_of_lt (hlt.trans (by decide))] at hvalue
  exact ⟨_, exec_feF71 hopr (lenIn_iff.mpr ⟨Nat.zero_le _, hlen⟩) (f71_of_allIn hin), hvalue.trans (mixedUniform_map _ _ _),
    bufBit_zero_of_beValue_lt (hvalue ▸ hlt)⟩

/-! ## The nibbles of t71 (R254) -/

/-- The value of a hexadecimal digit; 0 for any other character. `hexVal_of_hexDigit` ties it to `hexVal`. -/
def hexDigit (c : Byte) : Nat :=
  if 0x30 ≤ c.toNat ∧ c.toNat ≤ 0x39 then c.toNat - 0x30
  else if 0x41 ≤ c.toNat ∧ c.toNat ≤ 0x46 then c.toNat - 0x41 + 10
  else if 0x61 ≤ c.toNat ∧ c.toNat ≤ 0x66 then c.toNat - 0x61 + 10
  else 0

/-- A hexadecimal digit of either case. -/
def IsHexDigit (c : Byte) : Prop :=
  (0x30 ≤ c.toNat ∧ c.toNat ≤ 0x39) ∨ (0x41 ≤ c.toNat ∧ c.toNat ≤ 0x46) ∨ (0x61 ≤ c.toNat ∧ c.toNat ≤ 0x66)

theorem hexVal_of_hexDigit {c : Byte} (h : IsHexDigit c) : hexVal c = some (hexDigit c) := by
  simp only [hexVal, hexDigit, isDigit, digitVal, ← Bool.decide_and, decide_eq_true_eq]
  split
  · rfl
  split
  · rfl
  split
  · rfl
  next hdigit hupper hlower => exact absurd h (by rw [IsHexDigit]; tauto)

theorem hexDigit_lt (c : Byte) : hexDigit c < 16 := by
  unfold hexDigit
  split
  · omega
  split
  · omega
  split <;> omega

/-- A field written right after the bits `0` to `off - 1`. -/
theorem bufRead_bufWrite_next {n : Nat} (B : Buf n) {off w : Nat} (v : Nat) (h : off + w ≤ 8 * n) :
    bufRead (bufWrite B off w v) 0 (off + w) = bufRead B 0 off * 2 ^ w + v % 2 ^ w := by
  rw [bufRead_add, bufRead_bufWrite_disjoint _ _ _ _ _ _ h (.inl (Nat.zero_add off).le), Nat.zero_add, bufRead_bufWrite_same _ _ _ _ h]

/-- The loop of R254 continues the number that stands before its first nibble. -/
theorem bufRead_writeNibbles {h : List Nat} (hlen : h.length ≤ 18) (hlt : ∀ d ∈ h, d < 16) (B : Buf 9) :
    bufRead (writeNibbles h B) 0 72 = h.foldl (fun n d => n * 16 + d) (bufRead B 0 (72 - 4 * h.length)) := by
  induction h generalizing B with
  | nil => rfl
  | cons d rest ih =>
    obtain ⟨hd, hrest⟩ := List.forall_mem_cons.mp hlt
    rw [List.length_cons] at hlen
    have hnext := bufRead_bufWrite_next B (off := 72 - 4 * (rest.length + 1)) (w := 4) d (by omega)
    rw [show 72 - 4 * (rest.length + 1) + 4 = 72 - 4 * rest.length by omega, Nat.mod_eq_of_lt (by omega)] at hnext
    rw [writeNibbles, ih (Nat.le_of_succ_le hlen) hrest, hnext]
    rfl

theorem beValue_writeNibbles {h : List Nat} (hlen : h.length ≤ 18) (hlt : ∀ d ∈ h, d < 16) :
    beValue (writeNibbles h zeroB71).toList = mixedUniform 16 h := by
  rw [beValue_toList, bufRead_writeNibbles hlen hlt, zeroB71, bufRead_replicate_zero, mixedUniform]

theorem clampLeading_of_short {h : List Nat} (hlen : h.length < 18) : clampLeading h = h := if_neg hlen.ne

theorem clampLeading_of_full {d : Nat} {rest : List Nat} (hlen : (d :: rest).length = 18) :
    clampLeading (d :: rest) = min d 7 :: rest := if_pos hlen

theorem t71_of_hexDigits {hex : Text} (h : ∀ c ∈ hex, IsHexDigit c) :
    t71 hex = some (writeNibbles (clampLeading (hex.map hexDigit)) zeroB71) := by
  rw [t71, cellsWith_eq_map fun c hc => hexVal_of_hexDigit (h c hc)]

theorem hexDigits_lt (hex : Text) : ∀ d ∈ hex.map hexDigit, d < 16 := by
  intro d hd
  obtain ⟨c, _, rfl⟩ := List.mem_map.mp hd
  exact hexDigit_lt c

/-- Fewer than eighteen digits leave the clamp out. -/
theorem beValue_t71_of_short {hex : Text} (hlen : hex.length < 18) :
    beValue (writeNibbles (clampLeading (hex.map hexDigit)) zeroB71).toList = hex.foldl (fun m c => m * 16 + hexDigit c) 0 ∧
      beValue (writeNibbles (clampLeading (hex.map hexDigit)) zeroB71).toList < 2 ^ 71 := by
  have hlen' : (hex.map hexDigit).length < 18 := by rwa [List.length_map]
  rw [clampLeading_of_short hlen', beValue_writeNibbles hlen'.le (hexDigits_lt hex)]
  refine ⟨mixedUniform_map 16 hexDigit hex, (mixedUniform_lt (hexDigits_lt hex)).trans_le ?_⟩
  calc 16 ^ (hex.map hexDigit).length ≤ 16 ^ 17 := Nat.pow_le_pow_right (by decide) (Nat.le_of_lt_succ hlen')
    _ ≤ 2 ^ 71 := by decide

/-- Eighteen digits fill the 72 bits, and the clamped one leaves the first bit 0. -/
theorem beValue_t71_of_full {c : Byte} {rest : Text} (hlen : (c :: rest).length = 18) :
    beValue (writeNibbles (clampLeading ((c :: rest).map hexDigit)) zeroB71).toList =
        rest.foldl (fun m c => m * 16 + hexDigit c) (min (hexDigit c) 7) ∧
      beValue (writeNibbles (clampLeading ((c :: rest).map hexDigit)) zeroB71).toList < 2 ^ 71 := by
  have hrest : (rest.map hexDigit).length = 17 := by rw [List.length_map]; exact Nat.succ.inj hlen
  have hnibbles : ∀ d ∈ min (hexDigit c) 7 :: rest.map hexDigit, d < 16 :=
    List.forall_mem_cons.mpr ⟨by omega, hexDigits_lt rest⟩
  have hvalue : mixedUniform 16 (min (hexDigit c) 7 :: rest.map hexDigit) =
      (rest.map hexDigit).foldl (fun m d => m * 16 + d) (min (hexDigit c) 7) := by
    rw [mixedUniform, List.foldl_cons, Nat.zero_mul, Nat.zero_add]
  rw [List.map_cons, clampLeading_of_full (by rw [List.length_cons, hrest]),
    beValue_writeNibbles (by rw [List.length_cons, hrest]) hnibbles, hvalue]
  refine ⟨List.foldl_map, (foldl_radix_lt (hexDigits_lt rest) _).trans_le ?_⟩
  rw [hrest]
  calc (min (hexDigit c) 7 + 1) * 16 ^ 17 ≤ 8 * 16 ^ 17 := Nat.mul_le_mul_right _ (by omega)
    _ = 2 ^ 71 := by decide

/-- Settles O46: the nibbles are written one after the other, with or without the clamp. -/
theorem feT71Result : Obligations.FeT71Result := by
  intro s o hopr
  dsimp only
  intro hlen hhex
  refine ⟨_, exec_feT71 hopr (lenIn_iff.mpr ⟨Nat.zero_le _, hlen⟩) (t71_of_hexDigits hhex), bufBit_zero_of_beValue_lt ?msb,
    fun hshort => (beValue_t71_of_short hshort).1, ?full⟩
  case msb =>
    obtain hshort | hfull := Nat.lt_or_eq_of_le hlen
    · exact (beValue_t71_of_short hshort).2
    · obtain ⟨c, rest, heq⟩ := List.exists_cons_of_length_eq_add_one hfull
      rw [heq] at hfull ⊢
      exact (beValue_t71_of_full hfull).2
  case full =>
    intro c rest heq hfull
    rw [heq] at hfull ⊢
    exact (beValue_t71_of_full hfull).1

/-! ## The canonical form of a standard callsign (R239) -/

/-- The greatest index below `n` with the property is the first one from the right. -/
theorem find?_reverse_range {n p : Nat} {f : Nat → Bool} (hp : p < n) (hf : f p = true) (hlast : ∀ q, p < q → q < n → f q = false) :
    (List.range n).reverse.find? f = some p := by
  induction n with
  | zero => exact absurd hp (Nat.not_lt_zero p)
  | succ n ih =>
    rw [List.range_succ, List.reverse_append, List.reverse_singleton, List.singleton_append]
    obtain hp | rfl := Nat.lt_succ_iff_lt_or_eq.mp hp
    · rw [List.find?_cons_of_neg (by rw [hlast n hp n.lt_succ_self]; decide)]
      exact ih hp fun q hpq hq => hlast q hpq (Nat.lt_succ_of_lt hq)
    · exact List.find?_cons_of_pos hf

theorem stdShift_of_digit {t : Text} {p : Nat} (hp : p < t.length) (hp2 : p ≤ 2) (hdigit : isDigit (t.getD p 0) = true)
    (hlast : ∀ q, p < q → q < t.length → q ≤ 2 → isDigit (t.getD q 0) = false) : stdShift t = 2 - p := by
  have hpos : stdDigitPos t = some p :=
    find?_reverse_range (by omega) hdigit fun q hpq hq => hlast q hpq (by omega) (by omega)
  rw [stdShift, hpos]

theorem stdShift_of_no_digit {t : Text} (hnone : ∀ q, q < t.length → q ≤ 2 → isDigit (t.getD q 0) = false) : stdShift t = 0 := by
  have hpos : stdDigitPos t = none := by
    refine List.find?_eq_none.mpr fun q hq => Bool.eq_false_iff.mp ?_
    have hlt := List.mem_range.mp (List.mem_reverse.mp hq)
    exact hnone q (by omega) (by omega)
  rw [stdShift, hpos]

theorem length_stdCanonical (t : Text) : (stdCanonical t).length = 6 := length_padRight (List.length_take_le _ _)

theorem stdCanonical_eq (t : Text) :
    stdCanonical t = (List.replicate (stdShift t) space ++ t).take 6 ++ List.replicate (6 - (stdShift t + t.length)) space := by
  rw [stdCanonical, padRight, List.length_take, List.length_append, List.length_replicate,
    show 6 - min 6 (stdShift t + t.length) = 6 - (stdShift t + t.length) by omega]

/-- Settles O40: the last digit of the first three characters gives the shift. -/
theorem standardCallsignForm : Obligations.StandardCallsignForm := by
  refine fun t _ hlen => ⟨length_stdCanonical t, fun p hp hp2 hdigit hlast => ?shifted, fun hnone => ?unshifted⟩
  case shifted =>
    rw [stdCanonical_eq, stdShift_of_digit hp hp2 hdigit hlast]
    rfl
  case unshifted =>
    rw [stdCanonical_eq, stdShift_of_no_digit hnone, List.replicate_zero, List.nil_append, List.take_of_length_le hlen, Nat.zero_add]
    rfl

/-! ## The value of a canonical form (R240, R241) -/

theorem stdValue_cells (radix1 : Nat) (c0 c1 c2 c3 c4 c5 : Byte) : stdValue radix1 [c0, c1, c2, c3, c4, c5] =
    ((((cellOrZero a37 c0 * radix1 + cellOrZero a36 c1) * 10 + cellOrZero a10 c2) * 27 + cellOrZero a27 c3) * 27 +
      cellOrZero a27 c4) * 27 + cellOrZero a27 c5 := by
  simp [stdValue, mixed]

theorem cellOrZero_a37_lt (c : Byte) : cellOrZero a37 c < 37 := cellOrZero_lt (by decide) c
theorem cellOrZero_a36_lt (c : Byte) : cellOrZero a36 c < 36 := cellOrZero_lt (by decide) c
theorem cellOrZero_a10_lt (c : Byte) : cellOrZero a10 c < 10 := cellOrZero_lt (by decide) c
theorem cellOrZero_a27_lt (c : Byte) : cellOrZero a27 c < 27 := cellOrZero_lt (by decide) c

theorem stdValue_le (c6 : Text) : stdValue 36 c6 ≤ 262177559 := by
  unfold stdValue
  split
  next c0 c1 c2 c3 c4 c5 =>
    refine (stdValue_cells 36 c0 c1 c2 c3 c4 c5).trans_le ?_
    have h0 := cellOrZero_a37_lt c0
    have h1 := cellOrZero_a36_lt c1
    have h2 := cellOrZero_a10_lt c2
    have h3 := cellOrZero_a27_lt c3
    have h4 := cellOrZero_a27_lt c4
    have h5 := cellOrZero_a27_lt c5
    omega
  next => exact Nat.zero_le _

theorem canonicalCells_iff {c6 : Text} : canonicalCells c6 = true ↔ ∃ c0 c1 c2 c3 c4 c5 : Byte, c6 = [c0, c1, c2, c3, c4, c5] ∧
    c0 ∈ a37 ∧ c1 ∈ a36 ∧ c2 ∈ a10 ∧ c3 ∈ a27 ∧ c4 ∈ a27 ∧ c5 ∈ a27 := by
  constructor
  · intro h
    match c6, h with
    | [c0, c1, c2, c3, c4, c5], h =>
      refine ⟨c0, c1, c2, c3, c4, c5, rfl, ?_⟩
      simpa only [canonicalCells, Bool.and_eq_true, List.contains_iff_mem, and_assoc] using h
  · rintro ⟨c0, c1, c2, c3, c4, c5, rfl, h⟩
    simpa only [canonicalCells, Bool.and_eq_true, List.contains_iff_mem, and_assoc] using h

/-- Digit by digit from the right; each cell value gives its character back. -/
theorem stdValue_inj {a b : Text} (ha : canonicalCells a = true) (hb : canonicalCells b = true) (h : stdValue 36 a = stdValue 36 b) :
    a = b := by
  obtain ⟨c0, c1, c2, c3, c4, c5, rfl, hc0, hc1, hc2, hc3, hc4, hc5⟩ := canonicalCells_iff.mp ha
  obtain ⟨d0, d1, d2, d3, d4, d5, rfl, hd0, hd1, hd2, hd3, hd4, hd5⟩ := canonicalCells_iff.mp hb
  rw [stdValue_cells, stdValue_cells] at h
  obtain ⟨h, heq5⟩ := radix_digit_inj (cellOrZero_a27_lt _) (cellOrZero_a27_lt _) h
  obtain ⟨h, heq4⟩ := radix_digit_inj (cellOrZero_a27_lt _) (cellOrZero_a27_lt _) h
  obtain ⟨h, heq3⟩ := radix_digit_inj (cellOrZero_a27_lt _) (cellOrZero_a27_lt _) h
  obtain ⟨h, heq2⟩ := radix_digit_inj (cellOrZero_a10_lt _) (cellOrZero_a10_lt _) h
  obtain ⟨heq0, heq1⟩ := radix_digit_inj (cellOrZero_a36_lt _) (cellOrZero_a36_lt _) h
  rw [cellOrZero_inj hc0 hd0 heq0, cellOrZero_inj hc1 hd1 heq1, cellOrZero_inj hc2 hd2 heq2, cellOrZero_inj hc3 hd3 heq3,
    cellOrZero_inj hc4 hd4 heq4, cellOrZero_inj hc5 hd5 heq5]

/-! ## The letters of a CQ modifier (R236) -/

theorem cellOrZero_a27_of_upper {c : Byte} (h : 0x41 ≤ c.toNat ∧ c.toNat ≤ 0x5A) : cellOrZero a27 c = c.toNat - 0x41 + 1 := by
  have hletters : ∀ k : Fin 26, cellOrZero a27 (BitVec.ofNat 8 (0x41 + k)) = k + 1 := by decide
  have hc : BitVec.ofNat 8 (0x41 + (c.toNat - 0x41)) = c := by
    rw [Nat.add_sub_cancel' h.1]
    exact BitVec.ofNat_toNat 8 c
  have hcell := hletters ⟨c.toNat - 0x41, by omega⟩
  rwa [hc] at hcell

/-- The spaces in front are zeros. -/
theorem base27_eq_foldl (t : Text) : base27 t = t.foldl (fun m c => m * 27 + cellOrZero a27 c) 0 := by
  have hspaces : ∀ n, (List.replicate n space).foldl (fun m c => m * 27 + cellOrZero a27 c) 0 = 0 := by
    intro n
    induction n with
    | zero => rfl
    | succ n ih => exact ih
  calc base27 t = (padLeft 4 t).foldl (fun m c => m * 27 + cellOrZero a27 c) 0 := mixedUniform_map 27 (cellOrZero a27) _
    _ = t.foldl (fun m c => m * 27 + cellOrZero a27 c) 0 := by rw [padLeft, List.foldl_append, hspaces]

theorem base27_of_letters {t : Text} (h : ∀ c ∈ t, 0x41 ≤ c.toNat ∧ c.toNat ≤ 0x5A) :
    base27 t = t.foldl (fun m c => m * 27 + (c.toNat - 0x41 + 1)) 0 := by
  rw [base27_eq_foldl]
  exact List.foldl_ext _ _ _ fun m c hc => by rw [cellOrZero_a27_of_upper (h c hc)]

theorem base27_lt {t : Text} (hlen : t.length ≤ 4) : base27 t < 27 ^ 4 := by
  have hlt := mixedUniform_cells_lt (A := a27) (r := 27) (by decide) (by decide) (padLeft 4 t)
  rwa [length_padLeft hlen] at hlt

/-- The last letter counts at least 1. -/
theorem base27_pos {t : Text} (hlen : 1 ≤ t.length) (h : ∀ c ∈ t, 0x41 ≤ c.toNat ∧ c.toNat ≤ 0x5A) : 0 < base27 t := by
  obtain rfl | ⟨init, c, rfl⟩ := List.eq_nil_or_concat' t
  · exact absurd hlen (by decide)
  · rw [base27_of_letters h, List.foldl_append, List.foldl_cons, List.foldl_nil]
    omega

/-! ## c28 (R234 to R242) -/

theorem c28_num_range {cfg : Config} {v : BitVec 16} (h : v.toNat ≤ 999) :
    3 ≤ c28 cfg (.cqMod (.num v)) ∧ c28 cfg (.cqMod (.num v)) ≤ 1002 := by
  rw [c28]
  omega

theorem letters_of_cqModOk {t : Text} (h : cqModOk (.lets t) = true) :
    1 ≤ t.length ∧ t.length ≤ 4 ∧ ∀ c ∈ t, 0x41 ≤ c.toNat ∧ c.toNat ≤ 0x5A := by
  obtain ⟨_, hnum, _⟩ | ⟨t', ht, hletters⟩ := cqModOk_iff.mp h
  · cases hnum
  · cases ht
    exact hletters

theorem c28_lets_range {cfg : Config} {t : Text} (h : cqModOk (.lets t) = true) :
    1004 ≤ c28 cfg (.cqMod (.lets t)) ∧ c28 cfg (.cqMod (.lets t)) ≤ 532443 := by
  obtain ⟨hlo, hhi, hupper⟩ := letters_of_cqModOk h
  have hpos := base27_pos hlo hupper
  have hlt := base27_lt hhi
  rw [c28]
  omega

theorem c28_hash22_range {cfg : Config} {h : BitVec 32} (hh : h.toNat < 2 ^ 22) :
    2063592 ≤ c28 cfg (.hash22 h) ∧ c28 cfg (.hash22 h) ≤ 6257895 := by
  rw [c28]
  omega

theorem c28_std_range {cfg : Config} (t : Text) (hradix : cfg.c28Radix1 = 36) :
    6257896 ≤ c28 cfg (.std t) ∧ c28 cfg (.std t) ≤ 268435455 := by
  have hle := stdValue_le (stdCanonical t)
  rw [c28, hradix]
  omega

/-- Settles O41: each form has its own range, and the value of a canonical form determines it. -/
theorem c28RangesAndInjectivity : Obligations.C28RangesAndInjectivity := by
  refine ⟨fun cfg cell hradix hok => ?ranges, stdValue_le, fun a b => stdValue_inj⟩
  cases cell with
  | std t => exact c28_std_range t hradix
  | cq | de | qrz => rfl
  | cqMod m =>
    cases m with
    | num v => exact c28_num_range (of_decide_eq_true hok)
    | lets t => exact c28_lets_range hok
    | other k => cases hok
  | hash22 h => exact c28_hash22_range (of_decide_eq_true hok)
  | other k => cases hok

/-- The highest of the ranges ends at `2 ^ 28 - 1`. -/
theorem c28_lt {cfg : Config} {cell : CallCell} (hradix : cfg.c28Radix1 = 36) (hok : callCellOk cell = true) : c28 cfg cell < 2 ^ 28 := by
  have hrange := c28RangesAndInjectivity.1 cfg cell hradix hok
  split at hrange
  case h_8 => exact hrange.elim
  all_goals omega

/-- Settles O39, form by form. -/
theorem feC28Result : Obligations.FeC28Result := by
  intro s o hopr
  dsimp only
  intro hok hradix
  refine ⟨_, exec_feC28 hopr hok, c28_lt hradix hok, fun hcell => hcell ▸ rfl, fun hcell => hcell ▸ rfl, fun hcell => hcell ▸ rfl,
    fun v hcell => hcell ▸ rfl, fun t hcell => ?letters, fun h hcell => hcell ▸ rfl, fun t c0 c1 c2 c3 c4 c5 hcell hform => ?standard⟩
  case letters =>
    rw [hcell] at hok ⊢
    obtain ⟨_, _, hupper⟩ := letters_of_cqModOk hok
    rw [c28, base27_of_letters hupper]
  case standard => rw [hcell, c28, hradix, hform, stdValue_cells]

end Sys2Proof.Machine

/-! # The packer family: the bit-field commands on FRAME, and every field of the nine payload frames (R280 to R300) -/

namespace Sys2Proof

/-- What R286 asks of each row of FTX_LAYOUT, in the order of `FtxLayout.wf`: the fields cover the payload, each discriminator fits three bits. -/
structure FtxLayout.MeetsR286 (L : FtxLayout) : Prop where
  freeText : coversExactly [(L.freeText.f71, 71)] 71 = true
  freeTextN3 : L.freeText.n3 < 8
  dxped : coversExactly [(L.dxped.c28a, 28), (L.dxped.c28b, 28), (L.dxped.h10, 10), (L.dxped.r5, 5)] 71 = true
  dxpedN3 : L.dxped.n3 < 8
  fieldDay : coversExactly [(L.fieldDay.c28To, 28), (L.fieldDay.c28De, 28), (L.fieldDay.r1, 1), (L.fieldDay.n4, 4), (L.fieldDay.k3, 3),
    (L.fieldDay.s7, 7)] 71 = true
  fieldDayN3Low : L.fieldDay.n3Low < 8
  fieldDayN3High : L.fieldDay.n3High < 8
  telemetry : coversExactly [(L.telemetry.t71, 71)] 71 = true
  telemetryN3 : L.telemetry.n3 < 8
  euVhf2 : coversExactly [(L.euVhf2.c28To, 28), (L.euVhf2.pTo, 1), (L.euVhf2.c28De, 28), (L.euVhf2.pDe, 1), (L.euVhf2.r1, 1),
    (L.euVhf2.g15, 15)] 74 = true
  euVhf2I3 : L.euVhf2.i3 < 8
  rttyRu : coversExactly [(L.rttyRu.tu, 1), (L.rttyRu.c28To, 28), (L.rttyRu.c28De, 28), (L.rttyRu.r1, 1), (L.rttyRu.r3, 3),
    (L.rttyRu.s13, 13)] 74 = true
  rttyRuI3 : L.rttyRu.i3 < 8
  nonstd : coversExactly [(L.nonstd.h12, 12), (L.nonstd.c58, 58), (L.nonstd.h1, 1), (L.nonstd.r2, 2), (L.nonstd.cq, 1)] 74 = true
  nonstdI3 : L.nonstd.i3 < 8
  euVhf5 : coversExactly [(L.euVhf5.h12, 12), (L.euVhf5.h22, 22), (L.euVhf5.r1, 1), (L.euVhf5.r3, 3), (L.euVhf5.s11, 11),
    (L.euVhf5.g25, 25)] 74 = true
  euVhf5I3 : L.euVhf5.i3 < 8

theorem FtxLayout.meetsR286_of_wf {L : FtxLayout} (h : L.wf = true) : L.MeetsR286 := by
  simp only [FtxLayout.wf, FtxLayout.disc, Bool.and_eq_true, decide_eq_true_eq, and_assoc] at h
  obtain ⟨freeText, freeTextN3, dxped, dxpedN3, fieldDay, fieldDayN3Low, fieldDayN3High, telemetry, telemetryN3, euVhf2, euVhf2I3,
    rttyRu, rttyRuI3, nonstd, nonstdI3, euVhf5, euVhf5I3⟩ := h
  exact {
    freeText, freeTextN3, dxped, dxpedN3, fieldDay, fieldDayN3Low, fieldDayN3High, telemetry, telemetryN3, euVhf2, euVhf2I3,
    rttyRu, rttyRuI3, nonstd, nonstdI3, euVhf5, euVhf5I3 }

end Sys2Proof

namespace Sys2Proof.Machine

-- As in Tests/Slice0.lean: each thread of asynchronous elaboration reserves memory, of which the text before leaves little.
set_option Elab.async false

/-! ## The default layouts (R300, R115) -/

/-- Settles O51: the rows are the definition's own, and the condition of R286 is evaluated on them. -/
theorem defaultLayouts : Obligations.DefaultLayouts :=
  ⟨by decide, rfl, rfl, rfl, rfl, rfl, rfl, rfl, rfl⟩

/-! ## `PACK_BITS` and `UNPACK_BITS` (R281 to R284) -/

theorem fieldLegal_of_not_illegal {off width : Nat} (h : ¬(width = 0 ∨ 64 < width ∨ 80 < off + width)) : fieldLegal off width = true :=
  Bool.of_not_eq_false fun hbad => h (fieldLegal_eq_false_iff.mp hbad)

theorem exec_packBits {s : State} {o : PackBitsOpr} (hopr : s.opr = .record (.packBits o))
    (hlegal : fieldLegal o.off.toNat o.width.toNat = true) :
    exec .packBits s = .next (completePack (bufWrite s.frame o.off.toNat o.width.toNat o.value.toNat) s) := by
  simp [exec, execPackBits, hopr, hlegal]

theorem exec_unpackBits {s : State} {o : UnpackBitsOpr} (hopr : s.opr = .record (.unpackBits o))
    (hlegal : fieldLegal o.off.toNat o.width.toNat = true) :
    exec .unpackBits s = .next (completeField (BitVec.ofNat 64 (bufRead s.frame o.off.toNat o.width.toNat)) s) := by
  simp [exec, execUnpackBits, hopr, hlegal]

/-- RESULT holds every value of at most 64 bits unchanged (R283). -/
theorem toNat_ofNat_bufRead {n : Nat} (B : Buf n) (off : Nat) {w : Nat} (h : w ≤ 64) :
    (BitVec.ofNat 64 (bufRead B off w)).toNat = bufRead B off w :=
  Nat.mod_eq_of_lt ((bufRead_lt B off w).trans_le (Nat.pow_le_pow_right (by decide) h))

/-- Settles O35: an illegal field fails the check of the record, a legal one is one `bufWrite`. -/
theorem packBitsResult : Obligations.PackBitsResult := by
  intro s o hopr
  refine ⟨fun hbad => exec_of_invalid_record hopr (fieldLegal_eq_false_iff.mpr hbad), fun hgood => ?_⟩
  have hlegal := fieldLegal_of_not_illegal hgood
  exact ⟨_, exec_packBits hopr hlegal, fun k _ => bufBit_bufWrite _ _ _ _ _ (off_add_width_le_of_fieldLegal hlegal)⟩

/-- Settles O36: an illegal field fails the check of the record, a legal one is one `bufRead`. -/
theorem unpackBitsResult : Obligations.UnpackBitsResult := by
  intro s o hopr
  refine ⟨fun hbad => exec_of_invalid_record hopr (fieldLegal_eq_false_iff.mpr hbad), fun hgood => ?_⟩
  refine ⟨_, exec_unpackBits hopr (fieldLegal_of_not_illegal hgood), ?_⟩
  rw [toNat_ofNat_bufRead _ _ (by omega)]
  exact bufRead_spec _ _ _

/-- A command as the host issues it (R90, R353): its operation runs on the record just written, with CMD taken. -/
theorem runActions_issue {r : OprRecord} {i : Instr} {s t : State} (xs : List Action)
    (h : exec i (clearCmd { s with opr := .record r }) = .next t) : runActions (issue r (encode i) ++ xs) s = runActions xs t := by
  have hwrite : act s (.write .host (.opr r)) = .next { s with opr := .record r } := rfl
  have hcmd : act { s with opr := .record r } (.write .host (.cmd (encode i))) = .next t :=
    (runOpcode_of_decode (decode_encode i) _).trans h
  rw [issue, List.cons_append, List.cons_append, List.nil_append, runActions, hwrite]
  dsimp only
  rw [runActions, hcmd]

/-- Settles O37: the second command reads the field the first one wrote. -/
theorem packUnpackRoundTrip : Obligations.PackUnpackRoundTrip := by
  intro s off width value hlo hhi hend hfits
  have hlegal : fieldLegal off.toNat width.toNat = true := fieldLegal_of_not_illegal (by omega)
  have hpack := exec_packBits (s := clearCmd { s with opr := .record (.packBits { off, width, value }) }) rfl hlegal
  have hunpack := exec_unpackBits (s := clearCmd
    { completePack (bufWrite s.frame off.toNat width.toNat value.toNat) (clearCmd { s with opr := .record (.packBits { off, width, value }) })
      with opr := .record (.unpackBits { off, width }) }) rfl hlegal
  have hrun := (runActions_issue _ hpack).trans (runActions_issue [] hunpack)
  refine ⟨_, hrun, rfl, ?value, fun k _ hk => ?outside⟩
  case value =>
    apply BitVec.eq_of_toNat_eq
    refine (toNat_ofNat_bufRead _ _ hhi).trans ?_
    exact (bufRead_bufWrite_same _ _ _ _ hend).trans (Nat.mod_eq_of_lt hfits)
  case outside =>
    exact (bufBit_bufWrite _ _ _ _ _ hend).trans (if_neg (by omega))

/-! ## A frame as a list of field writes (R286 to R288) -/

/-- One field write of a frame: its first bit, its width and its value. -/
structure FrameField where
  off : Nat
  width : Nat
  value : Nat

def FrameField.span (f : FrameField) : Nat × Nat := (f.off, f.width)

/-- The field reads as its value, cut to its width (R67). -/
def FrameField.StandsIn (F : Buf 10) (f : FrameField) : Prop := bufRead F f.off f.width = f.value % 2 ^ f.width

theorem FrameField.StandsIn.read_eq {F : Buf 10} {f : FrameField} (h : f.StandsIn F) (hlt : f.value < 2 ^ f.width) :
    bufRead F f.off f.width = f.value := h.trans (Nat.mod_eq_of_lt hlt)

/-- No bit belongs to both fields. -/
def FrameField.Apart (f g : FrameField) : Prop := ∀ k, ¬(holdsBit f.span k ∧ holdsBit g.span k)

theorem FrameField.apart_of_le {f g : FrameField} (h : f.off + f.width ≤ g.off) : f.Apart g := by
  rintro k ⟨⟨_, hf⟩, ⟨hg, _⟩⟩
  exact absurd (hf.trans_le h) (Nat.not_lt.mpr hg)

/-- The fields written one after the other; the `…Frame_holds` lemmas tie it to the packers' frames. -/
def writeFields (fs : List FrameField) (B : Buf 10) : Buf 10 := fs.foldl (fun F f => bufWrite F f.off f.width f.value) B

@[simp] theorem writeFields_nil (B : Buf 10) : writeFields [] B = B := rfl

@[simp] theorem writeFields_cons (f : FrameField) (fs : List FrameField) (B : Buf 10) :
    writeFields (f :: fs) B = writeFields fs (bufWrite B f.off f.width f.value) := rfl

/-- The fields share no bit and end at bit `n` or before. -/
structure LaidOut (n : Nat) (fs : List FrameField) : Prop where
  fits : ∀ f ∈ fs, f.off + f.width ≤ n
  apart : fs.Pairwise FrameField.Apart

theorem laidOut_of_covers {n : Nat} {fs : List FrameField} (h : coversExactly (fs.map FrameField.span) n = true) : LaidOut n fs where
  fits := List.forall_mem_map.mp (coversExactly_fits h)
  apart := List.pairwise_map (f := FrameField.span).mp (coversExactly_disjoint h)

/-- A field that begins where the others end. -/
theorem LaidOut.append_next {n : Nat} {fs : List FrameField} (h : LaidOut n fs) (w v : Nat) : LaidOut (n + w) (fs ++ [⟨n, w, v⟩]) where
  fits := List.forall_mem_append.mpr ⟨fun f hf => (h.fits f hf).trans (Nat.le_add_right n w), by simp⟩
  apart := List.pairwise_append.mpr ⟨h.apart, List.pairwise_singleton _ _, fun f hf g hg => by
    rw [List.mem_singleton.mp hg]
    exact FrameField.apart_of_le (h.fits f hf)⟩

/-- A field apart from all that is written reads as before. -/
theorem bufRead_writeFields_apart {fs : List FrameField} (hfits : ∀ f ∈ fs, f.off + f.width ≤ 8 * 10) {g : FrameField}
    (hapart : ∀ f ∈ fs, f.Apart g) (B : Buf 10) : bufRead (writeFields fs B) g.off g.width = bufRead B g.off g.width := by
  induction fs generalizing B with
  | nil => rfl
  | cons f fs ih =>
    obtain ⟨hf, hfs⟩ := List.forall_mem_cons.mp hfits
    obtain ⟨hfg, hfsg⟩ := List.forall_mem_cons.mp hapart
    rw [writeFields_cons, ih hfs hfsg, bufRead_bufWrite_bits _ _ _ _ _ _ hf hfg]

/-- Fields that share no bit all stand, whatever the order of the writes. -/
theorem standsIn_writeFields {fs : List FrameField} (hfits : ∀ f ∈ fs, f.off + f.width ≤ 8 * 10) (hapart : fs.Pairwise FrameField.Apart)
    (B : Buf 10) : ∀ f ∈ fs, f.StandsIn (writeFields fs B) := by
  induction fs generalizing B with
  | nil => exact fun f hf => absurd hf List.not_mem_nil
  | cons f fs ih =>
    obtain ⟨hf, hfs⟩ := List.forall_mem_cons.mp hfits
    obtain ⟨hhead, htail⟩ := List.pairwise_cons.mp hapart
    refine List.forall_mem_cons.mpr ⟨?_, ih hfs htail _⟩
    exact (bufRead_writeFields_apart hfs (g := f) (fun g hg k hk => hhead g hg k hk.symm) _).trans (bufRead_bufWrite_same _ _ _ _ hf)

/-- Every field of the list stands in the frame, and the three unused bits are 0 (R287). -/
structure FrameHolds (F : Buf 10) (fs : List FrameField) : Prop where
  fields : fs.Forall (FrameField.StandsIn F)
  unused : bufRead F 77 3 = 0

theorem LaidOut.frameHolds {fs : List FrameField} (h : LaidOut 77 fs) : FrameHolds (writeFields fs zeroFrame) fs where
  fields :=
    List.forall_iff_forall_mem.mpr (standsIn_writeFields (fun f hf => (h.fits f hf).trans (by decide)) h.apart zeroFrame)
  unused := by
    have hkept := bufRead_writeFields_apart (fun f hf => (h.fits f hf).trans (by decide)) (g := ⟨77, 3, 0⟩)
      (fun f hf => FrameField.apart_of_le (h.fits f hf)) zeroFrame
    exact hkept.trans (bufRead_replicate_zero 10 77 3)

/-- A payload of 71 bits, `n3`, and `i3 = 0` (R114, R288). -/
theorem frameHolds_of_covers71 {fs : List FrameField} (h : coversExactly (fs.map FrameField.span) 71 = true) (n3 : Nat) :
    FrameHolds (writeFields (fs ++ [⟨71, 3, n3⟩] ++ [⟨74, 3, 0⟩]) zeroFrame) (fs ++ [⟨71, 3, n3⟩] ++ [⟨74, 3, 0⟩]) :=
  (((laidOut_of_covers h).append_next 3 n3).append_next 3 0).frameHolds

/-- A payload of 74 bits and `i3` (R114, R288). -/
theorem frameHolds_of_covers74 {fs : List FrameField} (h : coversExactly (fs.map FrameField.span) 74 = true) (i3 : Nat) :
    FrameHolds (writeFields (fs ++ [⟨74, 3, i3⟩]) zeroFrame) (fs ++ [⟨74, 3, i3⟩]) :=
  ((laidOut_of_covers h).append_next 3 i3).frameHolds

/-! ## The nine frames (R289 to R297) -/

theorem freeTextFrame_holds {L : FreeTextLayout} (h : coversExactly [(L.f71, 71)] 71 = true) (B : Buf 9) :
    FrameHolds (freeTextFrame L B) [⟨L.f71, 71, beValue B.toList⟩, ⟨71, 3, L.n3⟩, ⟨74, 3, 0⟩] :=
  frameHolds_of_covers71 (fs := [⟨L.f71, 71, beValue B.toList⟩]) h L.n3

theorem telemetryFrame_holds {L : TelemetryLayout} (h : coversExactly [(L.t71, 71)] 71 = true) (B : Buf 9) :
    FrameHolds (telemetryFrame L B) [⟨L.t71, 71, beValue B.toList⟩, ⟨71, 3, L.n3⟩, ⟨74, 3, 0⟩] :=
  frameHolds_of_covers71 (fs := [⟨L.t71, 71, beValue B.toList⟩]) h L.n3

theorem dxpedFrame_holds {L : DxpedLayout} (h : coversExactly [(L.c28a, 28), (L.c28b, 28), (L.h10, 10), (L.r5, 5)] 71 = true)
    (ca cb h10 v5 : Nat) : FrameHolds (dxpedFrame L ca cb h10 v5)
      [⟨L.c28a, 28, ca⟩, ⟨L.c28b, 28, cb⟩, ⟨L.h10, 10, h10⟩, ⟨L.r5, 5, v5⟩, ⟨71, 3, L.n3⟩, ⟨74, 3, 0⟩] :=
  frameHolds_of_covers71 (fs := [⟨L.c28a, 28, ca⟩, ⟨L.c28b, 28, cb⟩, ⟨L.h10, 10, h10⟩, ⟨L.r5, 5, v5⟩]) h L.n3

theorem fieldDayFrame_holds {L : FieldDayLayout}
    (h : coversExactly [(L.c28To, 28), (L.c28De, 28), (L.r1, 1), (L.n4, 4), (L.k3, 3), (L.s7, 7)] 71 = true) (cTo cDe : Nat) (r : Bool)
    (ntx v3 v7 : Nat) : FrameHolds (fieldDayFrame L cTo cDe r ntx v3 v7)
      [⟨L.c28To, 28, cTo⟩, ⟨L.c28De, 28, cDe⟩, ⟨L.r1, 1, r.toNat⟩, ⟨L.n4, 4, fieldDayN4 ntx⟩, ⟨L.k3, 3, v3⟩, ⟨L.s7, 7, v7⟩,
        ⟨71, 3, fieldDayN3 L ntx⟩, ⟨74, 3, 0⟩] :=
  frameHolds_of_covers71 (fs := [⟨L.c28To, 28, cTo⟩, ⟨L.c28De, 28, cDe⟩, ⟨L.r1, 1, r.toNat⟩, ⟨L.n4, 4, fieldDayN4 ntx⟩, ⟨L.k3, 3, v3⟩,
    ⟨L.s7, 7, v7⟩]) h _

/-- The layout of the source (R293). -/
theorem standardFrame_holds (cTo : Nat) (roverTo : Bool) (cDe : Nat) (roverDe r : Bool) (g : Nat) :
    FrameHolds (standardFrame cTo roverTo cDe roverDe r g)
      [⟨0, 28, cTo⟩, ⟨28, 1, roverTo.toNat⟩, ⟨29, 28, cDe⟩, ⟨57, 1, roverDe.toNat⟩, ⟨58, 1, r.toNat⟩, ⟨59, 15, g⟩, ⟨74, 3, 1⟩] :=
  have hcovers : coversExactly [(0, 28), (28, 1), (29, 28), (57, 1), (58, 1), (59, 15)] 74 = true := by decide
  frameHolds_of_covers74 (fs := [⟨0, 28, cTo⟩, ⟨28, 1, roverTo.toNat⟩, ⟨29, 28, cDe⟩, ⟨57, 1, roverDe.toNat⟩, ⟨58, 1, r.toNat⟩,
    ⟨59, 15, g⟩]) hcovers 1

theorem euVhf2Frame_holds {L : EuVhf2Layout}
    (h : coversExactly [(L.c28To, 28), (L.pTo, 1), (L.c28De, 28), (L.pDe, 1), (L.r1, 1), (L.g15, 15)] 74 = true) (cTo : Nat) (pTo : Bool)
    (cDe : Nat) (pDe r : Bool) (g : Nat) : FrameHolds (euVhf2Frame L cTo pTo cDe pDe r g)
      [⟨L.c28To, 28, cTo⟩, ⟨L.pTo, 1, pTo.toNat⟩, ⟨L.c28De, 28, cDe⟩, ⟨L.pDe, 1, pDe.toNat⟩, ⟨L.r1, 1, r.toNat⟩, ⟨L.g15, 15, g⟩,
        ⟨74, 3, L.i3⟩] :=
  frameHolds_of_covers74 (fs := [⟨L.c28To, 28, cTo⟩, ⟨L.pTo, 1, pTo.toNat⟩, ⟨L.c28De, 28, cDe⟩, ⟨L.pDe, 1, pDe.toNat⟩, ⟨L.r1, 1, r.toNat⟩,
    ⟨L.g15, 15, g⟩]) h L.i3

theorem rttyRuFrame_holds {L : RttyRuLayout}
    (h : coversExactly [(L.tu, 1), (L.c28To, 28), (L.c28De, 28), (L.r1, 1), (L.r3, 3), (L.s13, 13)] 74 = true) (tu : Bool) (cTo cDe : Nat)
    (r : Bool) (v3 v13 : Nat) : FrameHolds (rttyRuFrame L tu cTo cDe r v3 v13)
      [⟨L.tu, 1, tu.toNat⟩, ⟨L.c28To, 28, cTo⟩, ⟨L.c28De, 28, cDe⟩, ⟨L.r1, 1, r.toNat⟩, ⟨L.r3, 3, v3⟩, ⟨L.s13, 13, v13⟩, ⟨74, 3, L.i3⟩] :=
  frameHolds_of_covers74 (fs := [⟨L.tu, 1, tu.toNat⟩, ⟨L.c28To, 28, cTo⟩, ⟨L.c28De, 28, cDe⟩, ⟨L.r1, 1, r.toNat⟩, ⟨L.r3, 3, v3⟩,
    ⟨L.s13, 13, v13⟩]) h L.i3

theorem nonstdFrame_holds {L : NonstdLayout}
    (h : coversExactly [(L.h12, 12), (L.c58, 58), (L.h1, 1), (L.r2, 2), (L.cq, 1)] 74 = true) (h12 n58 : Nat) (h1 : Bool) (v2 : Nat)
    (cq : Bool) : FrameHolds (nonstdFrame L h12 n58 h1 v2 cq)
      [⟨L.h12, 12, h12⟩, ⟨L.c58, 58, n58⟩, ⟨L.h1, 1, h1.toNat⟩, ⟨L.r2, 2, v2⟩, ⟨L.cq, 1, cq.toNat⟩, ⟨74, 3, L.i3⟩] :=
  frameHolds_of_covers74 (fs := [⟨L.h12, 12, h12⟩, ⟨L.c58, 58, n58⟩, ⟨L.h1, 1, h1.toNat⟩, ⟨L.r2, 2, v2⟩, ⟨L.cq, 1, cq.toNat⟩]) h L.i3

theorem euVhf5Frame_holds {L : EuVhf5Layout}
    (h : coversExactly [(L.h12, 12), (L.h22, 22), (L.r1, 1), (L.r3, 3), (L.s11, 11), (L.g25, 25)] 74 = true) (h12 h22 : Nat) (r : Bool)
    (v3 v11 v25 : Nat) : FrameHolds (euVhf5Frame L h12 h22 r v3 v11 v25)
      [⟨L.h12, 12, h12⟩, ⟨L.h22, 22, h22⟩, ⟨L.r1, 1, r.toNat⟩, ⟨L.r3, 3, v3⟩, ⟨L.s11, 11, v11⟩, ⟨L.g25, 25, v25⟩, ⟨74, 3, L.i3⟩] :=
  frameHolds_of_covers74 (fs := [⟨L.h12, 12, h12⟩, ⟨L.h22, 22, h22⟩, ⟨L.r1, 1, r.toNat⟩, ⟨L.r3, 3, v3⟩, ⟨L.s11, 11, v11⟩,
    ⟨L.g25, 25, v25⟩]) h L.i3

/-! ## The packer of a record in its domain (R287, R298) -/

theorem exec_ftxFreeText {s : State} {o : FtxFreeTextOpr} {B : Buf 9} (hopr : s.opr = .record (.ftxFreeText o))
    (hok : text13Ok o.text = true) (hB : f71 s.cfg.f71Radix o.text = some B) :
    exec .ftxFreeText s = .next (completePack (freeTextFrame s.cfg.ftxLayout.freeText B) s) := by
  simp [exec, execFtxFreeText, hopr, hok, hB]

theorem exec_ftxTelemetry {s : State} {o : FtxTelemetryOpr} {B : Buf 9} (hopr : s.opr = .record (.ftxTelemetry o))
    (hok : hex18Ok o.hex = true) (hB : t71 o.hex = some B) :
    exec .ftxTelemetry s = .next (completePack (telemetryFrame s.cfg.ftxLayout.telemetry B) s) := by
  simp [exec, execFtxTelemetry, hopr, hok, hB]

theorem exec_ftxDxped {s : State} {o : FtxDxpedOpr} {h : Nat} (hopr : s.opr = .record (.ftxDxped o)) (hcallA : callCellOk o.callA = true)
    (hcallB : callCellOk o.callB = true) (hdx : call11Ok o.dxCall = true) (hh : callHash o.dxCall 10 = some h) :
    exec .ftxDxped s = .next (completePack
      (dxpedFrame s.cfg.ftxLayout.dxped (c28 s.cfg o.callA) (c28 s.cfg o.callB) h (r5 o.report.toInt)) s) := by
  simp [exec, execFtxDxped, ftxDxpedOk, hopr, hcallA, hcallB, hdx, hh]

theorem exec_ftxFieldDay {s : State} {o : FtxFieldDayOpr} {k : Nat} (hopr : s.opr = .record (.ftxFieldDay o))
    (hcallTo : callCellOk o.callTo = true) (hcallDe : callCellOk o.callDe = true) (hlo : 1 ≤ o.ntx.toNat) (hhi : o.ntx.toNat ≤ 32)
    (hk : s7 s.cfg o.sec.val = k) :
    exec .ftxFieldDay s = .next (completePack (fieldDayFrame s.cfg.ftxLayout.fieldDay (c28 s.cfg o.callTo) (c28 s.cfg o.callDe) o.r
      o.ntx.toNat (k3 o.cls) (k + s.cfg.s7FrameBias)) s) := by
  have hfound : (k : Int) ≠ -1 := by omega
  have hbias : ((k : Int) + (s.cfg.s7FrameBias : Int)).toNat = k + s.cfg.s7FrameBias := by omega
  simp [exec, execFtxFieldDay, ftxFieldDayOk, hopr, hcallTo, hcallDe, hlo, hhi, hk, hfound, hbias]

theorem exec_ftxStandard {s : State} {o : FtxStandardOpr} (hopr : s.opr = .record (.ftxStandard o)) (hcallTo : callCellOk o.callTo = true)
    (hcallDe : callCellOk o.callDe = true) (hg15 : g15CellOk o.g15 = true) :
    exec .ftxStandard s = .next (completePack
      (standardFrame (c28 s.cfg o.callTo) o.roverTo (c28 s.cfg o.callDe) o.roverDe o.r (g15 o.g15)) s) := by
  simp [exec, execFtxStandard, ftxStandardOk, hopr, hcallTo, hcallDe, hg15]

theorem exec_ftxEuVhf2 {s : State} {o : FtxEuVhf2Opr} (hopr : s.opr = .record (.ftxEuVhf2 o)) (hcallTo : callCellOk o.callTo = true)
    (hcallDe : callCellOk o.callDe = true) (hg15 : g15CellOk o.g15 = true) :
    exec .ftxEuVhf2 s = .next (completePack
      (euVhf2Frame s.cfg.ftxLayout.euVhf2 (c28 s.cfg o.callTo) o.pTo (c28 s.cfg o.callDe) o.pDe o.r (g15 o.g15)) s) := by
  simp [exec, execFtxEuVhf2, ftxEuVhf2Ok, hopr, hcallTo, hcallDe, hg15]

theorem exec_ftxRttyRu {s : State} {o : FtxRttyRuOpr} (hopr : s.opr = .record (.ftxRttyRu o)) (hcallTo : callCellOk o.callTo = true)
    (hcallDe : callCellOk o.callDe = true) (hs13 : s13CellOk o.s13 = true) :
    exec .ftxRttyRu s = .next (completePack (rttyRuFrame s.cfg.ftxLayout.rttyRu o.tu (c28 s.cfg o.callTo) (c28 s.cfg o.callDe) o.r
      (r3 o.rst.toNat) (s13 s.cfg o.s13)) s) := by
  simp [exec, execFtxRttyRu, ftxRttyRuOk, hopr, hcallTo, hcallDe, hs13]

theorem exec_ftxNonstd {s : State} {o : FtxNonstdOpr} {h n : Nat} (hopr : s.opr = .record (.ftxNonstd o))
    (hhashCall : call11Ok o.hashCall = true) (hfullCall : call11Ok o.fullCall = true) (hword : r2WordOk o.word = true)
    (hh : callHash o.hashCall 12 = some h) (hn : c58 o.fullCall = some n) :
    exec .ftxNonstd s = .next (completePack (nonstdFrame s.cfg.ftxLayout.nonstd h n o.h1 (r2 o.word) o.cq) s) := by
  simp [exec, execFtxNonstd, ftxNonstdOk, hopr, hhashCall, hfullCall, hword, hh, hn]

theorem exec_ftxEuVhf5 {s : State} {o : FtxEuVhf5Opr} {h12 h22 : Nat} (hopr : s.opr = .record (.ftxEuVhf5 o))
    (hcallTo : call11Ok o.callTo = true) (hcallDe : call11Ok o.callDe = true) (hh12 : callHash o.callTo 12 = some h12)
    (hh22 : callHash o.callDe 22 = some h22) :
    exec .ftxEuVhf5 s = .next (completePack (euVhf5Frame s.cfg.ftxLayout.euVhf5 h12 h22 o.r (r3 o.rst.toNat) (s11 o.serial.toNat)
      (g25 o.grid6.val)) s) := by
  simp [exec, execFtxEuVhf5, ftxEuVhf5Ok, hopr, hcallTo, hcallDe, hh12, hh22]

/-! ## Every value fits its field (R286) -/

theorem FrameField.StandsIn.read_flag {F : Buf 10} {off : Nat} {b : Bool} (h : FrameField.StandsIn F ⟨off, 1, b.toNat⟩) :
    bufRead F off 1 = b.toNat := h.read_eq b.toNat_lt

theorem s13CellOk_of_known {c : S13Cell} (h : ∀ k, c ≠ .other k) : s13CellOk c = true :=
  Bool.of_not_eq_false fun hbad => (s13CellOk_eq_false_iff.mp hbad).elim h

theorem r2WordOk_of_known {w : R2Word} (h : ∀ k, w ≠ .other k) : r2WordOk w = true :=
  Bool.of_not_eq_false fun hbad => (r2WordOk_eq_false_iff.mp hbad).elim h

theorem callHash_lt {call : Text} {m h : Nat} (hm : m ≤ 64) (hh : callHash call m = some h) : h < 2 ^ m := by
  obtain ⟨n, _, rfl⟩ := callHash_eq_some hh
  refine Nat.div_lt_of_lt_mul ?_
  rw [← Nat.pow_add, Nat.sub_add_cancel hm]
  exact Nat.mod_lt _ (Nat.two_pow_pos 64)

theorem callHash_of_allIn {call : Text} (h : allIn a38 (upperText call) = true) {m : Nat} (hm : m ≤ 64) :
    ∃ v, callHash call m = some v ∧ v < 2 ^ m :=
  ⟨_, callHash_of_c58 m (c58_of_allIn h), callHash_lt hm (callHash_of_c58 m (c58_of_allIn h))⟩

theorem c58_of_allIn_lt {call : Text} (hlen : call.length ≤ 11) (h : allIn a38 (upperText call) = true) :
    ∃ n, c58 call = some n ∧ n < 2 ^ 58 :=
  ⟨_, c58_of_allIn h, (c58_value_lt hlen).trans (by decide)⟩

theorem r2_lt (w : R2Word) : r2 w < 4 := by
  cases w with
  | blank | rrr | rr73 | s73 => decide
  | other k => exact Nat.zero_lt_succ 3

theorem r3_lt (rst : Nat) : r3 rst < 8 := by
  rw [r3]
  split <;> omega

theorem k3_lt (c : Byte) : k3 c < 8 := by
  rw [k3]
  split
  next hcls =>
    obtain ⟨_, hhi⟩ := upperUpTo_iff.mp hcls
    rw [letterVal]
    omega
  next => decide

theorem s11_lt (serial : Nat) : s11 serial < 2048 := Nat.mod_lt _ (by decide)

theorem g25_lt (g : Text) : g25 g < 2 ^ 25 := (g25_le g).trans_lt (by decide)

theorem fieldDayN4_lt {ntx : Nat} (h : ntx ≤ 32) : fieldDayN4 ntx < 16 := by
  rw [fieldDayN4]
  split <;> omega

theorem fieldDayN3_lt {L : FieldDayLayout} (hlow : L.n3Low < 8) (hhigh : L.n3High < 8) (ntx : Nat) : fieldDayN3 L ntx < 8 := by
  rw [fieldDayN3]
  split
  · exact hlow
  · exact hhigh

/-- The big number of R251, for a radix thirteen digits of which fit 71 bits (R250). -/
theorem f71_value {r : Nat} {text : Text} (hlen : text.length ≤ 13) (hin : allIn a43 text = true) (hradix : 42 ≤ r) (hfits : r ^ 13 < 2 ^ 71) :
    ∃ B, f71 r text = some B ∧ beValue B.toList = text.foldl (fun m c => m * r + cellOrZero a43 c) 0 ∧ beValue B.toList < 2 ^ 71 := by
  have hlt : mixedUniform r (text.map (cellOrZero a43)) < 2 ^ 71 :=
    calc _ < r ^ text.length := mixedUniform_cells_lt (by decide) hradix _
      _ ≤ r ^ 13 := Nat.pow_le_pow_right (by omega) hlen
      _ < 2 ^ 71 := hfits
  have hvalue := beValue_foldl_mulAdd r (text.map (cellOrZero a43))
  rw [Nat.mod_eq_of_lt (hlt.trans (by decide))] at hvalue
  exact ⟨_, f71_of_allIn hin, hvalue.trans (mixedUniform_map _ _ _), hvalue ▸ hlt⟩

/-- The big number of R254 fits 71 bits with or without the clamp. -/
theorem beValue_t71_lt {hex : Text} (hlen : hex.length ≤ 18) :
    beValue (writeNibbles (clampLeading (hex.map hexDigit)) zeroB71).toList < 2 ^ 71 := by
  obtain hshort | hfull := Nat.lt_or_eq_of_le hlen
  · exact (beValue_t71_of_short hshort).2
  · obtain ⟨c, rest, rfl⟩ := List.exists_cons_of_length_eq_add_one hfull
    exact (beValue_t71_of_full hfull).2

/-! ## The statements of the nine packers -/

/-- Settles O52: the field holds all 71 bits of the big number of R251. -/
theorem ftxFreeTextFrame : Obligations.FtxFreeTextFrame := by
  intro s o hopr
  dsimp only
  intro hlen hin hradix hfits hwf
  have hL := FtxLayout.meetsR286_of_wf hwf
  obtain ⟨B, hB, hvalue, hlt⟩ := f71_value hlen hin hradix hfits
  obtain ⟨⟨hf71, hn3, hi3⟩, hunused⟩ := freeTextFrame_holds hL.freeText B
  exact ⟨_, exec_ftxFreeText hopr (lenIn_iff.mpr ⟨Nat.zero_le _, hlen⟩) hB, (hf71.read_eq hlt).trans hvalue,
    hn3.read_eq hL.freeTextN3, hi3, hunused⟩

/-- Settles O53: the field holds all 71 bits of the big number of R254, which the clamp keeps below `2 ^ 71`. -/
theorem ftxTelemetryFrame : Obligations.FtxTelemetryFrame := by
  intro s o hopr
  dsimp only
  intro hlen hhex hwf
  have hL := FtxLayout.meetsR286_of_wf hwf
  obtain ⟨⟨ht71, hn3, hi3⟩, hunused⟩ := telemetryFrame_holds hL.telemetry (writeNibbles (clampLeading (o.hex.map hexDigit)) zeroB71)
  have hread := ht71.read_eq (beValue_t71_lt hlen)
  refine ⟨_, exec_ftxTelemetry hopr (lenIn_iff.mpr ⟨Nat.zero_le _, hlen⟩) (t71_of_hexDigits hhex),
    fun hshort => hread.trans (beValue_t71_of_short hshort).1, fun c rest heq hfull => hread.trans ?full,
    hn3.read_eq hL.telemetryN3, hi3, hunused⟩
  case full =>
    rw [heq] at hfull ⊢
    exact (beValue_t71_of_full hfull).1

/-- Settles O54: the hash is below `2 ^ 10` and r5 at most 31. -/
theorem ftxDxpedFrame : Obligations.FtxDxpedFrame := by
  intro s o hopr
  dsimp only
  intro hcallA hcallB hlen hin hwf
  have hL := FtxLayout.meetsR286_of_wf hwf
  obtain ⟨h, hh, hlt⟩ := callHash_of_allIn hin (m := 10) (by decide)
  obtain ⟨⟨hc28a, hc28b, hh10, hr5, hn3, hi3⟩, hunused⟩ :=
    dxpedFrame_holds hL.dxped (c28 s.cfg o.callA) (c28 s.cfg o.callB) h (r5 o.report.toInt)
  exact ⟨_, h, exec_ftxDxped hopr hcallA hcallB (call11Ok_of_length hlen) hh, hh, hc28a, hc28b, hh10.read_eq hlt,
    hr5.read_eq (Nat.lt_succ_of_le (r5_eq _).1), hn3.read_eq hL.dxpedN3, hi3, hunused⟩

/-- Settles O55: an index of the section table is at most 83, so the biased one fits seven bits (R291). -/
theorem ftxFieldDayFrame : Obligations.FtxFieldDayFrame := by
  intro s o k hopr
  dsimp only
  intro hcallTo hcallDe hlo hhi hdistinct hk hbias hwf
  have hL := FtxLayout.meetsR286_of_wf hwf
  obtain ⟨hk84, _⟩ := Vector.getElem?_eq_some_iff.mp hk
  have hs7 := s7_of_tableIndex (tableIndex_of_nodup hdistinct (Vector.getElem?_toList.trans hk))
  obtain ⟨⟨hto, hde, hr, hn4, hk3, hsection, hn3, hi3⟩, hunused⟩ := fieldDayFrame_holds hL.fieldDay (c28 s.cfg o.callTo)
    (c28 s.cfg o.callDe) o.r o.ntx.toNat (k3 o.cls) (k + s.cfg.s7FrameBias)
  exact ⟨_, exec_ftxFieldDay hopr hcallTo hcallDe hlo hhi hs7, hto, hde, hr.read_flag, hn4.read_eq (fieldDayN4_lt hhi), hk3.read_eq (k3_lt _),
    hsection.read_eq (show k + s.cfg.s7FrameBias < 128 by omega), hn3.read_eq (fieldDayN3_lt hL.fieldDayN3Low hL.fieldDayN3High _),
    hi3, hunused⟩

/-- Settles O56: the layout of R293 covers the 74 bits, as the configured ones do. -/
theorem ftxStandardFrame : Obligations.FtxStandardFrame := by
  intro s o hopr hcallTo hcallDe hg15
  obtain ⟨⟨hto, hroverTo, hde, hroverDe, hr, hgrid, hi3⟩, hunused⟩ :=
    standardFrame_holds (c28 s.cfg o.callTo) o.roverTo (c28 s.cfg o.callDe) o.roverDe o.r (g15 o.g15)
  exact ⟨_, exec_ftxStandard hopr hcallTo hcallDe (g15CellOk_of_known hg15), hto, hroverTo.read_flag, hde, hroverDe.read_flag,
    hr.read_flag, hgrid.read_eq (g15_lt _), hi3, hunused⟩

/-- Settles O57: the fields of the Standard frame at the configured places. -/
theorem ftxEuVhf2Frame : Obligations.FtxEuVhf2Frame := by
  intro s o hopr
  dsimp only
  intro hcallTo hcallDe hg15 hwf
  have hL := FtxLayout.meetsR286_of_wf hwf
  obtain ⟨⟨hto, hpTo, hde, hpDe, hr, hgrid, hi3⟩, hunused⟩ :=
    euVhf2Frame_holds hL.euVhf2 (c28 s.cfg o.callTo) o.pTo (c28 s.cfg o.callDe) o.pDe o.r (g15 o.g15)
  exact ⟨_, exec_ftxEuVhf2 hopr hcallTo hcallDe (g15CellOk_of_known hg15), hto, hpTo.read_flag, hde, hpDe.read_flag, hr.read_flag,
    hgrid.read_eq (g15_lt _), hi3.read_eq hL.euVhf2I3, hunused⟩

/-- Settles O58: the three clauses of s13 are the value of the cell, cut to its field. -/
theorem ftxRttyRuFrame : Obligations.FtxRttyRuFrame := by
  intro s o hopr
  dsimp only
  intro hcallTo hcallDe hs13 hwf
  have hL := FtxLayout.meetsR286_of_wf hwf
  obtain ⟨⟨htu, hto, hde, hr, hr3, hcell, hi3⟩, hunused⟩ :=
    rttyRuFrame_holds hL.rttyRu o.tu (c28 s.cfg o.callTo) (c28 s.cfg o.callDe) o.r (r3 o.rst.toNat) (s13 s.cfg o.s13)
  refine ⟨_, exec_ftxRttyRu hopr hcallTo hcallDe (s13CellOk_of_known hs13), htu.read_flag, hto, hde, hr.read_flag, hr3.read_eq (r3_lt _),
    fun n hserial => hcell.trans ?serial, fun a k hstate hdistinct hk => hcell.trans ?state, fun a hstate habsent => hcell.trans ?absent,
    hi3.read_eq hL.rttyRuI3, hunused⟩
  case serial =>
    rw [hserial]
    exact Nat.mod_mod _ _
  case state =>
    rw [hstate, s13, stateVal_of_tableIndex (tableIndex_of_nodup hdistinct (Vector.getElem?_toList.trans hk))]
  case absent =>
    rw [hstate, s13, stateVal_of_not_mem habsent]
    exact Nat.zero_mod _

/-- Settles O59: eleven cells of radix 38 fit 58 bits. -/
theorem ftxNonstdFrame : Obligations.FtxNonstdFrame := by
  intro s o hopr
  dsimp only
  intro hhashLen hfullLen hhashIn hfullIn hword hwf
  have hL := FtxLayout.meetsR286_of_wf hwf
  obtain ⟨h, hh, hhlt⟩ := callHash_of_allIn hhashIn (m := 12) (by decide)
  obtain ⟨n, hn, hnlt⟩ := c58_of_allIn_lt hfullLen hfullIn
  obtain ⟨⟨hh12, hc58, hh1, hr2, hcq, hi3⟩, hunused⟩ := nonstdFrame_holds hL.nonstd h n o.h1 (r2 o.word) o.cq
  exact ⟨_, h, n, exec_ftxNonstd hopr (call11Ok_of_length hhashLen) (call11Ok_of_length hfullLen) (r2WordOk_of_known hword) hh hn, hh, hn,
    hh12.read_eq hhlt, hc58.read_eq hnlt, hh1.read_flag, hr2.read_eq (r2_lt _), hcq.read_flag, hi3.read_eq hL.nonstdI3, hunused⟩

/-- Settles O60: the two hashes and the grid fit their fields. -/
theorem ftxEuVhf5Frame : Obligations.FtxEuVhf5Frame := by
  intro s o hopr
  dsimp only
  intro htoLen hdeLen htoIn hdeIn hwf
  have hL := FtxLayout.meetsR286_of_wf hwf
  obtain ⟨h12, hh12, h12lt⟩ := callHash_of_allIn htoIn (m := 12) (by decide)
  obtain ⟨h22, hh22, h22lt⟩ := callHash_of_allIn hdeIn (m := 22) (by decide)
  obtain ⟨⟨hto, hde, hr, hr3, hs11, hg25, hi3⟩, hunused⟩ :=
    euVhf5Frame_holds hL.euVhf5 h12 h22 o.r (r3 o.rst.toNat) (s11 o.serial.toNat) (g25 o.grid6.val)
  exact ⟨_, h12, h22, exec_ftxEuVhf5 hopr (call11Ok_of_length htoLen) (call11Ok_of_length hdeLen) hh12 hh22, hh12, hh22,
    hto.read_eq h12lt, hde.read_eq h22lt, hr.read_flag, hr3.read_eq (r3_lt _), hs11.read_eq (s11_lt _),
    hg25.read_eq (g25_lt _), hi3.read_eq hL.euVhf5I3, hunused⟩

end Sys2Proof.Machine

/-! # The common family: the results depend on the operands, the configuration and FRAME (R309, R230, R354) -/

namespace Sys2Proof.Machine

/-! ## The registers an operation writes (R37), moved to another state -/

/-- `s` with the registers that `i` writes as they stand in `t`: STATUS, RESULT and B71 always, FRAME and the sequence by family (R37). -/
def withResultsOf (i : Instr) (t s : State) : State :=
  let fromFrame := if writesFrame i then t else s
  let fromSeq := if isSequenceEncoder i then t else s
  { s with
    status := t.status, result := t.result, b71 := t.b71, frame := fromFrame.frame, seqMode := fromSeq.seqMode,
    seqBase := fromSeq.seqBase, seqLen := fromSeq.seqLen, seqCursor := fromSeq.seqCursor, seqRepeat := fromSeq.seqRepeat,
    sym := fromSeq.sym }

@[simp] theorem withResultsOf_status (i : Instr) (t s : State) : (withResultsOf i t s).status = t.status := rfl
@[simp] theorem withResultsOf_result (i : Instr) (t s : State) : (withResultsOf i t s).result = t.result := rfl
@[simp] theorem withResultsOf_b71 (i : Instr) (t s : State) : (withResultsOf i t s).b71 = t.b71 := rfl

theorem withResultsOf_frame {i : Instr} (hi : writesFrame i = true) (t s : State) : (withResultsOf i t s).frame = t.frame := by
  rw [withResultsOf, if_pos hi]

theorem withResultsOf_sequence {i : Instr} (hi : isSequenceEncoder i = true) (t s : State) :
    SameSequence t (withResultsOf i t s) := by
  rw [withResultsOf, if_pos hi]
  exact ⟨rfl, rfl, rfl, rfl, rfl, rfl⟩

/-- An outcome with its next state, if it has one, replaced. -/
def mapNext (f : State → State) : Host.Outcome State Fault Refusal → Host.Outcome State Fault Refusal
  | .next t => .next (f t)
  | .fault e => .fault e
  | .refused r => .refused r

@[simp] theorem mapNext_next (f : State → State) (t : State) : mapNext f (.next t) = .next (f t) := rfl

/-! ## Noninterference -/

/-- Run in a state that agrees on configuration and OPR, and on FRAME for the two bit-field operations, an operation does what it did, with the
registers it does not write kept. (`exec_sameAnswer` leaves open which update the two answers share.) The cases are grouped by the checks
between the operands and the completion. -/
theorem exec_eq_mapNext_withResultsOf (i : Instr) {s s' : State} (hcfg : s'.cfg = s.cfg) (hopr : s'.opr = s.opr)
    (hframe : i = .packBits ∨ i = .unpackBits → s'.frame = s.frame) :
    exec i s' = mapNext (fun t => withResultsOf i t s') (exec i s) := by
  cases i
  case feG25 | feS7 | feState | feR3 | feR5 | feK3 | feS11 =>
    simp only [exec, execFeG25, execFeS7, execFeState, execFeR3, execFeR5, execFeK3, execFeS11, hcfg, hopr]
    rfl
  case packBits | unpackBits =>
    simp only [exec, execPackBits, execUnpackBits, hopr, hframe (by decide)]
    split
    · rfl
    · rfl
  case feC28 | feG15 | feR2 | ftxFieldDay | ftxStandard | ftxEuVhf2 | ftxRttyRu =>
    simp only [exec, execFeC28, execFeG15, execFeR2, execFtxFieldDay, execFtxStandard, execFtxEuVhf2, execFtxRttyRu, hcfg, hopr]
    split
    · rfl
    · rfl
  case encCw | encRtty | feC58 | feHash | feF71 | feT71 | ftxFreeText | ftxTelemetry | ftxDxped | ftxNonstd | ftxEuVhf5 =>
    simp only [exec, execEncCw, execEncRtty, execFeC58, execFeHash, execFeF71, execFeT71, execFtxFreeText, execFtxTelemetry, execFtxDxped,
      execFtxNonstd, execFtxEuVhf5, hcfg, hopr]
    split
    · rfl
    · split
      · rfl
      · rfl
  case encWspr =>
    simp only [exec, execEncWspr, hcfg, hopr]
    split
    · rfl
    · split
      · rfl
      · split
        · rfl
        · rfl

/-- Settles O13: the second state ends in itself with the results of the first. -/
theorem resultsDependOnOperandsOnly : Obligations.ResultsDependOnOperandsOnly := by
  intro i s s' t hcfg hopr hframe h
  have hrun := exec_eq_mapNext_withResultsOf i hcfg hopr hframe
  rw [h, mapNext_next] at hrun
  exact ⟨withResultsOf i t s', hrun, withResultsOf_status i t s', withResultsOf_result i t s', withResultsOf_b71 i t s',
    fun hi => withResultsOf_frame hi t s', fun hi => withResultsOf_sequence hi t s'⟩

end Sys2Proof.Machine

/-! # The exception family: the codes an operation can complete with (R321, R323, R339) -/

namespace Sys2Proof.Machine

theorem sequenceEncoder_status {i : Instr} {s t : State} (hi : isSequenceEncoder i = true) (h : exec i s = .next t) :
    t.status = .ok ∨ t.status = .validationError ∨ t.status = .allocationError := by
  obtain ⟨S, rfl⟩ | ⟨c, hc, rfl⟩ := sequenceEncoder_cases hi h
  · exact .inl rfl
  · exact .inr hc

/-- An operation that produces no sequence needs no capacity, so it cannot run out of it (R323). -/
theorem otherOperation_status {i : Instr} {s t : State} (hi : isSequenceEncoder i = false) (h : exec i s = .next t) :
    t.status = .ok ∨ t.status = .validationError := by
  obtain hfield | hframe := family_of_not_sequenceEncoder hi
  · have hout := exec_fieldEncoder i s hfield
    rw [h] at hout
    cases hout with
    | failed => exact .inr rfl
    | value v => exact .inl rfl
    | big B => exact .inl rfl
  · obtain rfl | ⟨F, rfl⟩ := frameWriter_cases hframe h
    · exact .inr rfl
    · exact .inl rfl

/-- The codes of every operation that R92 names; IDLE and ILLEGAL_COMMAND are not among them (R321). -/
theorem exec_status {i : Instr} {s t : State} (h : exec i s = .next t) :
    t.status = .ok ∨ t.status = .validationError ∨ (t.status = .allocationError ∧ isSequenceEncoder i = true) := by
  cases hi : isSequenceEncoder i with
  | false => exact (otherOperation_status hi h).imp_right .inl
  | true =>
    obtain hok | hinvalid | hroom := sequenceEncoder_status hi h
    · exact .inl hok
    · exact .inr (.inl hinvalid)
    · exact .inr (.inr ⟨hroom, rfl⟩)

/-- `ENC_WSPR` asks for 162 symbols whatever its operands (R216); the record may be any, unlike in `exec_encWspr_of_valid`. -/
theorem symCap_lt_of_encWspr_allocationError {s t : State} (h : exec .encWspr s = .next t) (hcode : t.status = .allocationError) :
    s.cfg.symCap < 162 := by
  simp only [exec, execEncWspr] at h
  split at h
  case isTrue => cases h; cases hcode
  case isFalse =>
    split at h
    case isTrue hroom => exact hroom
    case isFalse =>
      split at h
      case isTrue => cases h
      case isFalse => cases h; cases hcode

/-- The seven operations of R339's `OK` only check nothing. -/
theorem exec_of_neverFails {i : Instr} (hi : neverFails i = true) (s : State) : ∃ v, exec i s = .next (completeField v s) := by
  cases i
  case feG25 | feS7 | feState | feR3 | feR5 | feK3 | feS11 => exact ⟨_, rfl⟩
  all_goals exact absurd hi (by decide)

theorem status_of_neverFails {i : Instr} {s t : State} (hi : neverFails i = true) (h : exec i s = .next t) : t.status = .ok := by
  obtain ⟨v, hv⟩ := exec_of_neverFails hi s
  obtain rfl : completeField v s = t := by simpa using hv.symm.trans h
  exact completeField_status v s

/-- Settles O10: `exec_status` lists the codes; the capacity of `ENC_WSPR` and the operations that check nothing narrow the list. -/
theorem completionCodes : Obligations.CompletionCodes := by
  intro i s t h
  refine ⟨fun hidle => ?idle, fun hillegal => ?illegal, fun hroom => ⟨?sequence, ?wspr⟩, fun hinvalid => ?canFail⟩
  case idle => simpa [hidle] using exec_status h
  case illegal => simpa [hillegal] using exec_status h
  case sequence => simpa [hroom] using exec_status h
  case wspr =>
    rintro rfl
    exact symCap_lt_of_encWspr_allocationError h hroom
  case canFail =>
    rw [Bool.eq_false_iff]
    intro hnever
    simp [status_of_neverFails hnever h] at hinvalid

end Sys2Proof.Machine

/-! # The reset family: the state after reset, and the inputs that an operation refuses (R197, R248, R251, R254, R257, R350 to R352) -/

namespace Sys2Proof.Machine

/-! ## Reset (R39, R350, R351) -/

/-- Settles O1, register by register. -/
theorem resetState : Obligations.ResetState := by
  refine ⟨fun cfg => ?_, fun s => rfl, rfl⟩
  exact ⟨rfl, rfl, rfl, rfl, Vector.toList_replicate, Vector.toList_replicate, rfl, rfl, rfl, rfl, rfl, rfl⟩

/-! ## No operation faults -/

theorem exec_ne_fault (i : Instr) (s : State) (f : Fault) : exec i s ≠ .fault f := by
  intro h
  obtain hi | hi | hi := instr_family i
  · have hout := exec_sequenceEncoder i s hi
    rw [h] at hout
    cases hout
  · have hout := exec_fieldEncoder i s hi
    rw [h] at hout
    cases hout
  · have hout := exec_packer i s hi
    rw [h] at hout
    cases hout

/-! ## An operation reads OPR as a record of its shape (R25, R352) -/

/-- Two contents of OPR that an operation reads alike give the same answer, but for OPR itself. The cases are grouped by the checks between
the operands and the completion, as in `exec_eq_mapNext_withResultsOf`. -/
theorem exec_eq_mapNext_of_recordFor {i : Instr} {s : State} {opr : Opr} (h : opr.recordFor i = s.opr.recordFor i) :
    exec i s = mapNext (fun t => { t with opr := s.opr }) (exec i { s with opr := opr }) := by
  cases i
  case feG25 | feS7 | feState | feR3 | feR5 | feK3 | feS11 =>
    injection h with h
    simp only [exec, execFeG25, execFeS7, execFeState, execFeR3, execFeR5, execFeK3, execFeS11, h]
    rfl
  case packBits | unpackBits | feC28 | feG15 | feR2 | ftxFieldDay | ftxStandard | ftxEuVhf2 | ftxRttyRu =>
    injection h with h
    simp only [exec, execPackBits, execUnpackBits, execFeC28, execFeG15, execFeR2, execFtxFieldDay, execFtxStandard, execFtxEuVhf2,
      execFtxRttyRu, h]
    split
    · rfl
    · rfl
  case encCw | encRtty | feC58 | feHash | feF71 | feT71 | ftxFreeText | ftxTelemetry | ftxDxped | ftxNonstd | ftxEuVhf5 =>
    injection h with h
    simp only [exec, execEncCw, execEncRtty, execFeC58, execFeHash, execFeF71, execFeT71, execFtxFreeText, execFtxTelemetry, execFtxDxped,
      execFtxNonstd, execFtxEuVhf5, h]
    split
    · rfl
    · split
      · rfl
      · rfl
  case encWspr =>
    injection h with h
    simp only [exec, execEncWspr, h]
    split
    · rfl
    · split
      · rfl
      · split
        · rfl
        · rfl

theorem exec_eq_mapNext_recordFor (i : Instr) (s : State) :
    exec i s = mapNext (fun t => { t with opr := s.opr }) (exec i { s with opr := .record (s.opr.recordFor i) }) := by
  have hread := recordFor_record (s.opr.recordFor i)
  rw [instr_recordFor] at hread
  exact exec_eq_mapNext_of_recordFor hread

/-! ## The texts that have no cell value (R248, R251, R254, R257) -/

theorem cellsWith_eq_none_iff {f : Byte → Option Nat} {t : Text} : cellsWith f t = none ↔ ∃ c ∈ t, f c = none := by
  induction t with
  | nil => simp [cellsWith]
  | cons c t ih =>
    rw [List.exists_mem_cons_iff, ← ih, cellsWith]
    cases f c <;> cases cellsWith f t <;> simp

theorem allIn_eq_false_iff {A t : Text} : allIn A t = false ↔ ∃ c ∈ t, c ∉ A := by
  simp only [← Bool.not_eq_true, allIn_iff, not_forall, exists_prop]

theorem cellsWith_idx_eq_none_iff {A t : Text} : cellsWith (idx A) t = none ↔ allIn A t = false := by
  simp only [cellsWith_eq_none_iff, allIn_eq_false_iff, idx, List.idxOf?_eq_none_iff]

/-- The padding is of the alphabet, so it settles nothing. -/
theorem allIn_padRight_iff {A t : Text} (n : Nat) (hsp : space ∈ A) : allIn A (padRight n t) = true ↔ allIn A t = true :=
  ⟨fun h => allIn_iff.mpr fun c hc => allIn_iff.mp h c (List.mem_append_left _ hc), allIn_padRight n hsp⟩

theorem c58_eq_none_iff {call : Text} : c58 call = none ↔ allIn a38 (upperText call) = false := by
  rw [← Bool.not_eq_true, ← allIn_padRight_iff 11 (by decide), Bool.not_eq_true, ← cellsWith_idx_eq_none_iff, c58]
  cases cellsWith (idx a38) (padRight 11 (upperText call)) <;> simp

theorem callHash_eq_none_iff {call : Text} {m : Nat} : callHash call m = none ↔ allIn a38 (upperText call) = false := by
  rw [← c58_eq_none_iff, callHash]
  cases c58 call <;> simp

theorem f71_eq_none_iff {r : Nat} {text : Text} : f71 r text = none ↔ allIn a43 text = false := by
  rw [← cellsWith_idx_eq_none_iff, f71]
  cases cellsWith (idx a43) text <;> simp

theorem hexVal_eq_none_iff {c : Byte} : hexVal c = none ↔ ¬IsHexDigit c := by
  constructor
  · intro hnone hdigit
    rw [hexVal_of_hexDigit hdigit] at hnone
    cases hnone
  · intro hdigit
    rw [IsHexDigit, not_or, not_or] at hdigit
    obtain ⟨hdec, hupper, hlower⟩ := hdigit
    simp only [hexVal, isDigit, ← Bool.decide_and, decide_eq_true_eq, if_neg hdec, if_neg hupper, if_neg hlower]

theorem t71_eq_none_iff {hex : Text} : t71 hex = none ↔ ∃ c ∈ hex, ¬IsHexDigit c := by
  simp only [← hexVal_eq_none_iff, ← cellsWith_eq_none_iff, t71]
  cases cellsWith hexVal hex <;> simp

/-! ## The refusals of every operation -/

/-- What a record is refused for behind its domain check: the callsign has no canonical form, or a text has no cell value.
`exec_refused_iff` ties it to `exec`. -/
def RefusedFor (cfg : Config) (r : Refusal) : OprRecord → Prop
  | .encWspr o => r = .wsprUnrepresentable ∧ 162 ≤ cfg.symCap ∧ wsprRepresentable (wsprC6 o.callsign.val) = false
  | .feC58 o => r = .charOutsideAlphabet ∧ c58 o.call = none
  | .feF71 o => r = .charOutsideAlphabet ∧ f71 cfg.f71Radix o.text = none
  | .feT71 o => r = .charOutsideAlphabet ∧ t71 o.hex = none
  | .feHash o => r = .charOutsideAlphabet ∧ callHash o.call o.width.toNat = none
  | .ftxFreeText o => r = .charOutsideAlphabet ∧ f71 cfg.f71Radix o.text = none
  | .ftxTelemetry o => r = .charOutsideAlphabet ∧ t71 o.hex = none
  | .ftxDxped o => r = .charOutsideAlphabet ∧ callHash o.dxCall 10 = none
  | .ftxNonstd o => r = .charOutsideAlphabet ∧ (callHash o.hashCall 12 = none ∨ c58 o.fullCall = none)
  | .ftxEuVhf5 o => r = .charOutsideAlphabet ∧ (callHash o.callTo 12 = none ∨ callHash o.callDe 22 = none)
  | _ => False

/-- The operations that refuse some of their operands. -/
def refusesSome (i : Instr) : Bool :=
  [Instr.encWspr, .feC58, .feF71, .feT71, .feHash, .ftxFreeText, .ftxTelemetry, .ftxDxped, .ftxNonstd, .ftxEuVhf5].contains i

/-- The cases are grouped by the number of checks between the operands and the completion. -/
theorem exec_ne_refused {i : Instr} (hi : refusesSome i = false) (s : State) (r : Refusal) : exec i s ≠ .refused r := by
  cases i
  case feG25 | feS7 | feState | feR3 | feR5 | feK3 | feS11 => exact nofun
  case packBits | unpackBits | feC28 | feG15 | feR2 | ftxFieldDay | ftxStandard | ftxEuVhf2 | ftxRttyRu =>
    simp only [exec, execPackBits, execUnpackBits, execFeC28, execFeG15, execFeR2, execFtxFieldDay, execFtxStandard, execFtxEuVhf2,
      execFtxRttyRu]
    split
    · exact nofun
    · exact nofun
  case encCw | encRtty =>
    simp only [exec, execEncCw, execEncRtty]
    split
    · exact nofun
    · split
      · exact nofun
      · exact nofun
  all_goals exact absurd hi (by decide)

/-- A refusal whose condition `P` is met. -/
theorem refused_iff_of {q r : Refusal} {P : Prop} (h : P) :
    (.refused q : Host.Outcome State Fault Refusal) = .refused r ↔ r = q ∧ P := by
  rw [and_iff_left h, Host.Outcome.refused.injEq, eq_comm]

theorem check_not_failed {b : Bool} (h : b = true) : ¬(!b) = true := by simp [h]

theorem none_or_none_of_not_some {α β : Type} {x : Option α} {y : Option β} (h : ∀ v w, x = some v → y = some w → False) :
    x = none ∨ y = none := by
  cases x with
  | none => exact .inl rfl
  | some v => exact .inr (Option.eq_none_iff_forall_ne_some.mpr fun w hw => h v w rfl hw)

/-- Behind the domain check; the cases are grouped by the values that the operation needs of its texts. -/
theorem exec_refused_iff_of_valid {i : Instr} {s : State} {r : Refusal} (hvalid : recordValid s.cfg (s.opr.recordFor i) = true) :
    exec i s = .refused r ↔ RefusedFor s.cfg r (s.opr.recordFor i) := by
  cases i
  case encWspr =>
    simp only [exec, execEncWspr, Opr.recordFor, RefusedFor]
    split
    next hfail => exact absurd hfail (check_not_failed hvalid)
    · split
      next hroom => simp [Nat.not_le.mpr hroom]
      next hroom =>
        split
        next hform => exact refused_iff_of ⟨Nat.le_of_not_lt hroom, by simpa using hform⟩
        next hform =>
          have hrep : wsprRepresentable (wsprC6 s.opr.encWspr.callsign.val) = true := by simpa using hform
          simp [hrep]
  case feC58 | feF71 | feT71 | feHash | ftxFreeText | ftxTelemetry | ftxDxped =>
    simp only [exec, execFeC58, execFeF71, execFeT71, execFeHash, execFtxFreeText, execFtxTelemetry, execFtxDxped, ← Bool.not_and,
      Opr.recordFor, RefusedFor]
    split
    next hfail => exact absurd hfail (check_not_failed hvalid)
    · split
      next hvalue => simp [hvalue]
      next hnone => exact refused_iff_of hnone
  case ftxNonstd | ftxEuVhf5 =>
    simp only [exec, execFtxNonstd, execFtxEuVhf5, Opr.recordFor, RefusedFor]
    split
    next hfail => exact absurd hfail (check_not_failed hvalid)
    · split
      next hvalue hvalue' => simp [hvalue, hvalue']
      next hnone => exact refused_iff_of (none_or_none_of_not_some hnone)
  all_goals exact iff_of_false (exec_ne_refused rfl s r) not_false

/-- The domain of the record is judged before anything is refused (R96, log entry 8). -/
theorem exec_refused_iff {i : Instr} {s : State} {r : Refusal} : exec i s = .refused r ↔
    recordValid s.cfg (s.opr.recordFor i) = true ∧ RefusedFor s.cfg r (s.opr.recordFor i) := by
  cases hvalid : recordValid s.cfg (s.opr.recordFor i) with
  | false => simp [exec_of_invalid hvalid]
  | true => simp [exec_refused_iff_of_valid hvalid]

theorem lenIn_zero_iff {hi : Nat} {t : Text} : lenIn 0 hi t = true ↔ t.length ≤ hi := by simp [lenIn]

theorem hashWidthOk_iff {m : Nat} : hashWidthOk m = true ↔ m = 10 ∨ m = 12 ∨ m = 22 := by simp [hashWidthOk, or_assoc]

/-- Settles O16: the refusals by `exec_refused_iff`, where an operation that refuses nothing has no clause on either side; and an operation
reads nothing of OPR but its record. -/
theorem refusalsAreExactlyThese : Obligations.RefusalsAreExactlyThese := by
  unfold Obligations.RefusalsAreExactlyThese
  intro hexDigit
  refine ⟨exec_ne_fault, fun i s r => exec_refused_iff.trans ?refusals,
    fun i s => ⟨instr_recordFor s.opr i, recordFor_of_holds s.opr i, ?reads⟩⟩
  case refusals =>
    cases i
    case encWspr => simp [recordValid, RefusedFor, Opr.recordFor, and_left_comm]
    case feC58 | feF71 | feT71 | ftxFreeText | ftxTelemetry =>
      simp [recordValid, RefusedFor, Opr.recordFor, call11Ok, text13Ok, hex18Ok, lenIn_zero_iff, c58_eq_none_iff, f71_eq_none_iff,
        t71_eq_none_iff, IsHexDigit, hexDigit, and_left_comm]
    case feHash =>
      simp [recordValid, RefusedFor, Opr.recordFor, hashWidthOk_iff, call11Ok, lenIn_zero_iff, callHash_eq_none_iff, and_left_comm, and_assoc]
    case ftxDxped | ftxNonstd | ftxEuVhf5 =>
      simp [recordValid, RefusedFor, Opr.recordFor, callHash_eq_none_iff, c58_eq_none_iff, and_left_comm]
    all_goals simp [Opr.recordFor, RefusedFor]
  case reads =>
    rw [exec_eq_mapNext_recordFor i s]
    cases exec i { s with opr := .record (s.opr.recordFor i) } <;> rfl

end Sys2Proof.Machine
